-- ==== Sys2Proof/Word.lean ====
section
/-!
DEFINITION. The two word types of the machine (00_scope.md R9, R10): bytes and 16-bit words. Every helper that picks
bits, joins bytes or extends a sign stands in `Sys2Proof/Machine/Bits.lean`.
-/

namespace Sys2Proof

/-- An 8-bit register or a byte of memory (`u8` of 00_scope.md R10). -/
abbrev Byte := BitVec 8

/-- A 16-bit register, register pair or address (`u16` of 00_scope.md R10). -/
abbrev Word := BitVec 16

end Sys2Proof
end

