-- ==== Sys2Proof/Machine/Bits.lean ====
section
/-!
DEFINITION. Bit fields, byte order and sign extension: the notation of 00_scope.md R10 and R12.
-/

namespace Sys2Proof.Machine

/-- `hi:lo`, the concatenation with the high part first (00_scope.md R10). -/
def word16 (hi lo : Byte) : Word := hi ++ lo

/-- `v[15:8]`. -/
def hiByte (v : Word) : Byte := v.extractLsb' 8 8

/-- `v[7:0]`. -/
def loByte (v : Word) : Byte := v.extractLsb' 0 8

/-- `sext_16(v)` (00_scope.md R12). -/
def sext16 (v : Byte) : Word := v.signExtend 16

/-- `zext_16(v)` (00_scope.md R12). -/
def zext16 (v : Byte) : Word := v.setWidth 16

/-- `v[i]`, the bit i of a byte (00_scope.md R10). -/
def bitOf (v : Byte) (i : Nat) : Bool := v.getLsbD i

/-- `v | (1 << b)`. -/
def withBit (v : Byte) (b : Nat) : Byte := v ||| (1#8 <<< b)

/-- `v & ~(1 << b) & 0xFF`. -/
def withoutBit (v : Byte) (b : Nat) : Byte := v &&& ~~~(1#8 <<< b)

/-- A Bool as a byte, 0 or 1. -/
def byteOfBool (c : Bool) : Byte := (BitVec.ofBool c).setWidth 8

/-- F from its four flags: bit 7 Z, bit 6 N, bit 5 H, bit 4 C, bits 3-0 always 0 (10_state.md R33). -/
def packF (z n h c : Bool) : Byte :=
  BitVec.ofBool z ++ BitVec.ofBool n ++ BitVec.ofBool h ++ BitVec.ofBool c ++ 0#4

/-- What a write of v to F stores, `v & 0xF0` (10_state.md R33). -/
def maskF (v : Byte) : Byte := v &&& 0xF0

/-- The field `op[5:3]` of 30_encoding.md R151. -/
def fieldY (op : Byte) : Fin 8 := ⟨op.toNat / 8 % 8, Nat.mod_lt _ (by decide)⟩

/-- The field `op[2:0]` of 30_encoding.md R151. -/
def fieldZ (op : Byte) : Fin 8 := ⟨op.toNat % 8, Nat.mod_lt _ (by decide)⟩

/-- The field `op[7:6]` of 30_encoding.md R151. -/
def fieldX (op : Byte) : Fin 4 := ⟨op.toNat / 64, Nat.div_lt_of_lt_mul (by have := op.isLt; omega)⟩

end Sys2Proof.Machine
end

