-- ==== Sys2Proof/Syntax.lean ====
section
/-!
DEFINITION. The instruction set as syntax: the operand codes of 30_encoding.md R152 to R157, ONE inductive `Instr` with one
constructor for each of the 512 rows of spec/opcode_table.json, and the family views that name, for each operand code, the
row it selects. A constructor's docstring gives the row's assembler text and the rule that defines it. Parenthesised
operands are written `Ind`: `ldIndBcA` is `LD (BC),A`; `Hli` and `Hld` are `HL+` and `HL-`.
-/

namespace Sys2Proof

/-- The seven 8-bit registers of r8 (30_encoding.md R152 without code 6). -/
inductive Reg8 where
  | b
  | c
  | d
  | e
  | h
  | l
  | a
  deriving DecidableEq, Repr

/-- The 3-bit operand code r8, in code order: code 6 is the memory byte at HL (30_encoding.md R152). -/
inductive R8 where
  | b
  | c
  | d
  | e
  | h
  | l
  /-- the memory byte at address HL -/
  | indHl
  | a
  deriving DecidableEq, Repr

/-- The register-pair code r16, in code order (30_encoding.md R153). -/
inductive R16 where
  | bc
  | de
  | hl
  | sp
  deriving DecidableEq, Repr

/-- The stack register-pair code r16stk, in code order (30_encoding.md R154). -/
inductive R16Stk where
  | bc
  | de
  | hl
  | af
  deriving DecidableEq, Repr

/-- The condition code cc, in code order (30_encoding.md R155). -/
inductive Cond where
  | nz
  | z
  | nc
  | c
  deriving DecidableEq, Repr

/-- The ALU operation code, in code order (30_encoding.md R156). -/
inductive AluOp where
  | add
  | adc
  | sub
  | sbc
  | and
  | xor
  | or
  | cp
  deriving DecidableEq, Repr

/-- The CB rotate/shift code, in code order (30_encoding.md R157). -/
inductive RotOp where
  | rlc
  | rrc
  | rl
  | rr
  | sla
  | sra
  | swap
  | srl
  deriving DecidableEq, Repr

/-- The instructions: one constructor per row of spec/opcode_table.json. The rows with an immediate come
first (Lean's runtime wants constructors with fields early), then the others, each group in the table's order. -/
inductive Instr where
  /-- `LD BC,d16` (R219) -/
  | ldBcD16 (n : Word)
  /-- `LD B,d8` (R203) -/
  | ldBD8 (n : Byte)
  /-- `LD (a16),SP` (R220) -/
  | ldIndA16Sp (a : Word)
  /-- `LD C,d8` (R203) -/
  | ldCD8 (n : Byte)
  /-- `STOP` (R333); n is the second byte, fetched and ignored. -/
  | stop (n : Byte)
  /-- `LD DE,d16` (R219) -/
  | ldDeD16 (n : Word)
  /-- `LD D,d8` (R203) -/
  | ldDD8 (n : Byte)
  /-- `JR e8` (R314) -/
  | jrE8 (e : Byte)
  /-- `LD E,d8` (R203) -/
  | ldED8 (n : Byte)
  /-- `JR NZ,e8` (R315) -/
  | jrNzE8 (e : Byte)
  /-- `LD HL,d16` (R219) -/
  | ldHlD16 (n : Word)
  /-- `LD H,d8` (R203) -/
  | ldHD8 (n : Byte)
  /-- `JR Z,e8` (R315) -/
  | jrZE8 (e : Byte)
  /-- `LD L,d8` (R203) -/
  | ldLD8 (n : Byte)
  /-- `JR NC,e8` (R315) -/
  | jrNcE8 (e : Byte)
  /-- `LD SP,d16` (R219) -/
  | ldSpD16 (n : Word)
  /-- `LD (HL),d8` (R204) -/
  | ldIndHlD8 (n : Byte)
  /-- `JR C,e8` (R315) -/
  | jrCE8 (e : Byte)
  /-- `LD A,d8` (R203) -/
  | ldAD8 (n : Byte)
  /-- `JP NZ,a16` (R312) -/
  | jpNzA16 (a : Word)
  /-- `JP a16` (R311) -/
  | jpA16 (a : Word)
  /-- `CALL NZ,a16` (R317) -/
  | callNzA16 (a : Word)
  /-- `ADD A,d8` (R240) -/
  | addAD8 (n : Byte)
  /-- `JP Z,a16` (R312) -/
  | jpZA16 (a : Word)
  /-- `PREFIX CB` (R331) with its CB byte. The decoder reads the CB byte too and delivers the CB instruction it selects, so
  this term is well-formed nowhere (log entry 9). -/
  | prefixCb (cb : Byte)
  /-- `CALL Z,a16` (R317) -/
  | callZA16 (a : Word)
  /-- `CALL a16` (R316) -/
  | callA16 (a : Word)
  /-- `ADC A,d8` (R241) -/
  | adcAD8 (n : Byte)
  /-- `JP NC,a16` (R312) -/
  | jpNcA16 (a : Word)
  /-- `CALL NC,a16` (R317) -/
  | callNcA16 (a : Word)
  /-- `SUB A,d8` (R242) -/
  | subAD8 (n : Byte)
  /-- `JP C,a16` (R312) -/
  | jpCA16 (a : Word)
  /-- `CALL C,a16` (R317) -/
  | callCA16 (a : Word)
  /-- `SBC A,d8` (R243) -/
  | sbcAD8 (n : Byte)
  /-- `LDH (a8),A` (R212) -/
  | ldhIndA8A (n : Byte)
  /-- `AND A,d8` (R244) -/
  | andAD8 (n : Byte)
  /-- `ADD SP,e8` (R268) -/
  | addSpE8 (e : Byte)
  /-- `LD (a16),A` (R210) -/
  | ldIndA16A (a : Word)
  /-- `XOR A,d8` (R245) -/
  | xorAD8 (n : Byte)
  /-- `LDH A,(a8)` (R211) -/
  | ldhAIndA8 (n : Byte)
  /-- `OR A,d8` (R246) -/
  | orAD8 (n : Byte)
  /-- `LD HL,SP+e8` (R222) -/
  | ldHlSpE8 (e : Byte)
  /-- `LD A,(a16)` (R209) -/
  | ldAIndA16 (a : Word)
  /-- `CP A,d8` (R247) -/
  | cpAD8 (n : Byte)
  /-- `NOP` (R330) -/
  | nop
  /-- `LD (BC),A` (R207) -/
  | ldIndBcA
  /-- `INC BC` (R266) -/
  | incBc
  /-- `INC B` (R248) -/
  | incB
  /-- `DEC B` (R250) -/
  | decB
  /-- `RLCA` (R280) -/
  | rlca
  /-- `ADD HL,BC` (R265) -/
  | addHlBc
  /-- `LD A,(BC)` (R205) -/
  | ldAIndBc
  /-- `DEC BC` (R267) -/
  | decBc
  /-- `INC C` (R248) -/
  | incC
  /-- `DEC C` (R250) -/
  | decC
  /-- `RRCA` (R281) -/
  | rrca
  /-- `LD (DE),A` (R208) -/
  | ldIndDeA
  /-- `INC DE` (R266) -/
  | incDe
  /-- `INC D` (R248) -/
  | incD
  /-- `DEC D` (R250) -/
  | decD
  /-- `RLA` (R282) -/
  | rla
  /-- `ADD HL,DE` (R265) -/
  | addHlDe
  /-- `LD A,(DE)` (R206) -/
  | ldAIndDe
  /-- `DEC DE` (R267) -/
  | decDe
  /-- `INC E` (R248) -/
  | incE
  /-- `DEC E` (R250) -/
  | decE
  /-- `RRA` (R283) -/
  | rra
  /-- `LD (HL+),A` (R215) -/
  | ldIndHliA
  /-- `INC HL` (R266) -/
  | incHl
  /-- `INC H` (R248) -/
  | incH
  /-- `DEC H` (R250) -/
  | decH
  /-- `DAA` (R337) -/
  | daa
  /-- `ADD HL,HL` (R265) -/
  | addHlHl
  /-- `LD A,(HL+)` (R217) -/
  | ldAIndHli
  /-- `DEC HL` (R267) -/
  | decHl
  /-- `INC L` (R248) -/
  | incL
  /-- `DEC L` (R250) -/
  | decL
  /-- `CPL` (R338) -/
  | cpl
  /-- `LD (HL-),A` (R216) -/
  | ldIndHldA
  /-- `INC SP` (R266) -/
  | incSp
  /-- `INC (HL)` (R249) -/
  | incIndHl
  /-- `DEC (HL)` (R251) -/
  | decIndHl
  /-- `SCF` (R339) -/
  | scf
  /-- `ADD HL,SP` (R265) -/
  | addHlSp
  /-- `LD A,(HL-)` (R218) -/
  | ldAIndHld
  /-- `DEC SP` (R267) -/
  | decSp
  /-- `INC A` (R248) -/
  | incA
  /-- `DEC A` (R250) -/
  | decA
  /-- `CCF` (R340) -/
  | ccf
  /-- `LD B,B` (R200) -/
  | ldBB
  /-- `LD B,C` (R200) -/
  | ldBC
  /-- `LD B,D` (R200) -/
  | ldBD
  /-- `LD B,E` (R200) -/
  | ldBE
  /-- `LD B,H` (R200) -/
  | ldBH
  /-- `LD B,L` (R200) -/
  | ldBL
  /-- `LD B,(HL)` (R201) -/
  | ldBIndHl
  /-- `LD B,A` (R200) -/
  | ldBA
  /-- `LD C,B` (R200) -/
  | ldCB
  /-- `LD C,C` (R200) -/
  | ldCC
  /-- `LD C,D` (R200) -/
  | ldCD
  /-- `LD C,E` (R200) -/
  | ldCE
  /-- `LD C,H` (R200) -/
  | ldCH
  /-- `LD C,L` (R200) -/
  | ldCL
  /-- `LD C,(HL)` (R201) -/
  | ldCIndHl
  /-- `LD C,A` (R200) -/
  | ldCA
  /-- `LD D,B` (R200) -/
  | ldDB
  /-- `LD D,C` (R200) -/
  | ldDC
  /-- `LD D,D` (R200) -/
  | ldDD
  /-- `LD D,E` (R200) -/
  | ldDE
  /-- `LD D,H` (R200) -/
  | ldDH
  /-- `LD D,L` (R200) -/
  | ldDL
  /-- `LD D,(HL)` (R201) -/
  | ldDIndHl
  /-- `LD D,A` (R200) -/
  | ldDA
  /-- `LD E,B` (R200) -/
  | ldEB
  /-- `LD E,C` (R200) -/
  | ldEC
  /-- `LD E,D` (R200) -/
  | ldED
  /-- `LD E,E` (R200) -/
  | ldEE
  /-- `LD E,H` (R200) -/
  | ldEH
  /-- `LD E,L` (R200) -/
  | ldEL
  /-- `LD E,(HL)` (R201) -/
  | ldEIndHl
  /-- `LD E,A` (R200) -/
  | ldEA
  /-- `LD H,B` (R200) -/
  | ldHB
  /-- `LD H,C` (R200) -/
  | ldHC
  /-- `LD H,D` (R200) -/
  | ldHD
  /-- `LD H,E` (R200) -/
  | ldHE
  /-- `LD H,H` (R200) -/
  | ldHH
  /-- `LD H,L` (R200) -/
  | ldHL
  /-- `LD H,(HL)` (R201) -/
  | ldHIndHl
  /-- `LD H,A` (R200) -/
  | ldHA
  /-- `LD L,B` (R200) -/
  | ldLB
  /-- `LD L,C` (R200) -/
  | ldLC
  /-- `LD L,D` (R200) -/
  | ldLD
  /-- `LD L,E` (R200) -/
  | ldLE
  /-- `LD L,H` (R200) -/
  | ldLH
  /-- `LD L,L` (R200) -/
  | ldLL
  /-- `LD L,(HL)` (R201) -/
  | ldLIndHl
  /-- `LD L,A` (R200) -/
  | ldLA
  /-- `LD (HL),B` (R202) -/
  | ldIndHlB
  /-- `LD (HL),C` (R202) -/
  | ldIndHlC
  /-- `LD (HL),D` (R202) -/
  | ldIndHlD
  /-- `LD (HL),E` (R202) -/
  | ldIndHlE
  /-- `LD (HL),H` (R202) -/
  | ldIndHlH
  /-- `LD (HL),L` (R202) -/
  | ldIndHlL
  /-- `HALT` (R332) -/
  | halt
  /-- `LD (HL),A` (R202) -/
  | ldIndHlA
  /-- `LD A,B` (R200) -/
  | ldAB
  /-- `LD A,C` (R200) -/
  | ldAC
  /-- `LD A,D` (R200) -/
  | ldAD
  /-- `LD A,E` (R200) -/
  | ldAE
  /-- `LD A,H` (R200) -/
  | ldAH
  /-- `LD A,L` (R200) -/
  | ldAL
  /-- `LD A,(HL)` (R201) -/
  | ldAIndHl
  /-- `LD A,A` (R200) -/
  | ldAA
  /-- `ADD A,B` (R240) -/
  | addAB
  /-- `ADD A,C` (R240) -/
  | addAC
  /-- `ADD A,D` (R240) -/
  | addAD
  /-- `ADD A,E` (R240) -/
  | addAE
  /-- `ADD A,H` (R240) -/
  | addAH
  /-- `ADD A,L` (R240) -/
  | addAL
  /-- `ADD A,(HL)` (R240) -/
  | addAIndHl
  /-- `ADD A,A` (R240) -/
  | addAA
  /-- `ADC A,B` (R241) -/
  | adcAB
  /-- `ADC A,C` (R241) -/
  | adcAC
  /-- `ADC A,D` (R241) -/
  | adcAD
  /-- `ADC A,E` (R241) -/
  | adcAE
  /-- `ADC A,H` (R241) -/
  | adcAH
  /-- `ADC A,L` (R241) -/
  | adcAL
  /-- `ADC A,(HL)` (R241) -/
  | adcAIndHl
  /-- `ADC A,A` (R241) -/
  | adcAA
  /-- `SUB A,B` (R242) -/
  | subAB
  /-- `SUB A,C` (R242) -/
  | subAC
  /-- `SUB A,D` (R242) -/
  | subAD
  /-- `SUB A,E` (R242) -/
  | subAE
  /-- `SUB A,H` (R242) -/
  | subAH
  /-- `SUB A,L` (R242) -/
  | subAL
  /-- `SUB A,(HL)` (R242) -/
  | subAIndHl
  /-- `SUB A,A` (R242) -/
  | subAA
  /-- `SBC A,B` (R243) -/
  | sbcAB
  /-- `SBC A,C` (R243) -/
  | sbcAC
  /-- `SBC A,D` (R243) -/
  | sbcAD
  /-- `SBC A,E` (R243) -/
  | sbcAE
  /-- `SBC A,H` (R243) -/
  | sbcAH
  /-- `SBC A,L` (R243) -/
  | sbcAL
  /-- `SBC A,(HL)` (R243) -/
  | sbcAIndHl
  /-- `SBC A,A` (R243) -/
  | sbcAA
  /-- `AND A,B` (R244) -/
  | andAB
  /-- `AND A,C` (R244) -/
  | andAC
  /-- `AND A,D` (R244) -/
  | andAD
  /-- `AND A,E` (R244) -/
  | andAE
  /-- `AND A,H` (R244) -/
  | andAH
  /-- `AND A,L` (R244) -/
  | andAL
  /-- `AND A,(HL)` (R244) -/
  | andAIndHl
  /-- `AND A,A` (R244) -/
  | andAA
  /-- `XOR A,B` (R245) -/
  | xorAB
  /-- `XOR A,C` (R245) -/
  | xorAC
  /-- `XOR A,D` (R245) -/
  | xorAD
  /-- `XOR A,E` (R245) -/
  | xorAE
  /-- `XOR A,H` (R245) -/
  | xorAH
  /-- `XOR A,L` (R245) -/
  | xorAL
  /-- `XOR A,(HL)` (R245) -/
  | xorAIndHl
  /-- `XOR A,A` (R245) -/
  | xorAA
  /-- `OR A,B` (R246) -/
  | orAB
  /-- `OR A,C` (R246) -/
  | orAC
  /-- `OR A,D` (R246) -/
  | orAD
  /-- `OR A,E` (R246) -/
  | orAE
  /-- `OR A,H` (R246) -/
  | orAH
  /-- `OR A,L` (R246) -/
  | orAL
  /-- `OR A,(HL)` (R246) -/
  | orAIndHl
  /-- `OR A,A` (R246) -/
  | orAA
  /-- `CP A,B` (R247) -/
  | cpAB
  /-- `CP A,C` (R247) -/
  | cpAC
  /-- `CP A,D` (R247) -/
  | cpAD
  /-- `CP A,E` (R247) -/
  | cpAE
  /-- `CP A,H` (R247) -/
  | cpAH
  /-- `CP A,L` (R247) -/
  | cpAL
  /-- `CP A,(HL)` (R247) -/
  | cpAIndHl
  /-- `CP A,A` (R247) -/
  | cpAA
  /-- `RET NZ` (R319) -/
  | retNz
  /-- `POP BC` (R224) -/
  | popBc
  /-- `PUSH BC` (R223) -/
  | pushBc
  /-- `RST 00H` (R320) -/
  | rst00
  /-- `RET Z` (R319) -/
  | retZ
  /-- `RET` (R318) -/
  | ret
  /-- `RST 08H` (R320) -/
  | rst08
  /-- `RET NC` (R319) -/
  | retNc
  /-- `POP DE` (R224) -/
  | popDe
  /-- `(illegal 0xD3)` (R334) -/
  | illegalD3
  /-- `PUSH DE` (R223) -/
  | pushDe
  /-- `RST 10H` (R320) -/
  | rst10
  /-- `RET C` (R319) -/
  | retC
  /-- `RETI` (R321) -/
  | reti
  /-- `(illegal 0xDB)` (R334) -/
  | illegalDB
  /-- `(illegal 0xDD)` (R334) -/
  | illegalDD
  /-- `RST 18H` (R320) -/
  | rst18
  /-- `POP HL` (R224) -/
  | popHl
  /-- `LD (C),A` (R214) -/
  | ldIndCA
  /-- `(illegal 0xE3)` (R334) -/
  | illegalE3
  /-- `(illegal 0xE4)` (R334) -/
  | illegalE4
  /-- `PUSH HL` (R223) -/
  | pushHl
  /-- `RST 20H` (R320) -/
  | rst20
  /-- `JP HL` (R313) -/
  | jpHl
  /-- `(illegal 0xEB)` (R334) -/
  | illegalEB
  /-- `(illegal 0xEC)` (R334) -/
  | illegalEC
  /-- `(illegal 0xED)` (R334) -/
  | illegalED
  /-- `RST 28H` (R320) -/
  | rst28
  /-- `POP AF` (R225) -/
  | popAf
  /-- `LD A,(C)` (R213) -/
  | ldAIndC
  /-- `DI` (R335) -/
  | di
  /-- `(illegal 0xF4)` (R334) -/
  | illegalF4
  /-- `PUSH AF` (R223) -/
  | pushAf
  /-- `RST 30H` (R320) -/
  | rst30
  /-- `LD SP,HL` (R221) -/
  | ldSpHl
  /-- `EI` (R336) -/
  | ei
  /-- `(illegal 0xFC)` (R334) -/
  | illegalFC
  /-- `(illegal 0xFD)` (R334) -/
  | illegalFD
  /-- `RST 38H` (R320) -/
  | rst38
  /-- `RLC B` (R284) -/
  | rlcB
  /-- `RLC C` (R284) -/
  | rlcC
  /-- `RLC D` (R284) -/
  | rlcD
  /-- `RLC E` (R284) -/
  | rlcE
  /-- `RLC H` (R284) -/
  | rlcH
  /-- `RLC L` (R284) -/
  | rlcL
  /-- `RLC (HL)` (R284) -/
  | rlcIndHl
  /-- `RLC A` (R284) -/
  | rlcA
  /-- `RRC B` (R285) -/
  | rrcB
  /-- `RRC C` (R285) -/
  | rrcC
  /-- `RRC D` (R285) -/
  | rrcD
  /-- `RRC E` (R285) -/
  | rrcE
  /-- `RRC H` (R285) -/
  | rrcH
  /-- `RRC L` (R285) -/
  | rrcL
  /-- `RRC (HL)` (R285) -/
  | rrcIndHl
  /-- `RRC A` (R285) -/
  | rrcA
  /-- `RL B` (R286) -/
  | rlB
  /-- `RL C` (R286) -/
  | rlC
  /-- `RL D` (R286) -/
  | rlD
  /-- `RL E` (R286) -/
  | rlE
  /-- `RL H` (R286) -/
  | rlH
  /-- `RL L` (R286) -/
  | rlL
  /-- `RL (HL)` (R286) -/
  | rlIndHl
  /-- `RL A` (R286) -/
  | rlA
  /-- `RR B` (R287) -/
  | rrB
  /-- `RR C` (R287) -/
  | rrC
  /-- `RR D` (R287) -/
  | rrD
  /-- `RR E` (R287) -/
  | rrE
  /-- `RR H` (R287) -/
  | rrH
  /-- `RR L` (R287) -/
  | rrL
  /-- `RR (HL)` (R287) -/
  | rrIndHl
  /-- `RR A` (R287) -/
  | rrA
  /-- `SLA B` (R288) -/
  | slaB
  /-- `SLA C` (R288) -/
  | slaC
  /-- `SLA D` (R288) -/
  | slaD
  /-- `SLA E` (R288) -/
  | slaE
  /-- `SLA H` (R288) -/
  | slaH
  /-- `SLA L` (R288) -/
  | slaL
  /-- `SLA (HL)` (R288) -/
  | slaIndHl
  /-- `SLA A` (R288) -/
  | slaA
  /-- `SRA B` (R289) -/
  | sraB
  /-- `SRA C` (R289) -/
  | sraC
  /-- `SRA D` (R289) -/
  | sraD
  /-- `SRA E` (R289) -/
  | sraE
  /-- `SRA H` (R289) -/
  | sraH
  /-- `SRA L` (R289) -/
  | sraL
  /-- `SRA (HL)` (R289) -/
  | sraIndHl
  /-- `SRA A` (R289) -/
  | sraA
  /-- `SWAP B` (R290) -/
  | swapB
  /-- `SWAP C` (R290) -/
  | swapC
  /-- `SWAP D` (R290) -/
  | swapD
  /-- `SWAP E` (R290) -/
  | swapE
  /-- `SWAP H` (R290) -/
  | swapH
  /-- `SWAP L` (R290) -/
  | swapL
  /-- `SWAP (HL)` (R290) -/
  | swapIndHl
  /-- `SWAP A` (R290) -/
  | swapA
  /-- `SRL B` (R291) -/
  | srlB
  /-- `SRL C` (R291) -/
  | srlC
  /-- `SRL D` (R291) -/
  | srlD
  /-- `SRL E` (R291) -/
  | srlE
  /-- `SRL H` (R291) -/
  | srlH
  /-- `SRL L` (R291) -/
  | srlL
  /-- `SRL (HL)` (R291) -/
  | srlIndHl
  /-- `SRL A` (R291) -/
  | srlA
  /-- `BIT 0,B` (R292) -/
  | bit0B
  /-- `BIT 0,C` (R292) -/
  | bit0C
  /-- `BIT 0,D` (R292) -/
  | bit0D
  /-- `BIT 0,E` (R292) -/
  | bit0E
  /-- `BIT 0,H` (R292) -/
  | bit0H
  /-- `BIT 0,L` (R292) -/
  | bit0L
  /-- `BIT 0,(HL)` (R292) -/
  | bit0IndHl
  /-- `BIT 0,A` (R292) -/
  | bit0A
  /-- `BIT 1,B` (R292) -/
  | bit1B
  /-- `BIT 1,C` (R292) -/
  | bit1C
  /-- `BIT 1,D` (R292) -/
  | bit1D
  /-- `BIT 1,E` (R292) -/
  | bit1E
  /-- `BIT 1,H` (R292) -/
  | bit1H
  /-- `BIT 1,L` (R292) -/
  | bit1L
  /-- `BIT 1,(HL)` (R292) -/
  | bit1IndHl
  /-- `BIT 1,A` (R292) -/
  | bit1A
  /-- `BIT 2,B` (R292) -/
  | bit2B
  /-- `BIT 2,C` (R292) -/
  | bit2C
  /-- `BIT 2,D` (R292) -/
  | bit2D
  /-- `BIT 2,E` (R292) -/
  | bit2E
  /-- `BIT 2,H` (R292) -/
  | bit2H
  /-- `BIT 2,L` (R292) -/
  | bit2L
  /-- `BIT 2,(HL)` (R292) -/
  | bit2IndHl
  /-- `BIT 2,A` (R292) -/
  | bit2A
  /-- `BIT 3,B` (R292) -/
  | bit3B
  /-- `BIT 3,C` (R292) -/
  | bit3C
  /-- `BIT 3,D` (R292) -/
  | bit3D
  /-- `BIT 3,E` (R292) -/
  | bit3E
  /-- `BIT 3,H` (R292) -/
  | bit3H
  /-- `BIT 3,L` (R292) -/
  | bit3L
  /-- `BIT 3,(HL)` (R292) -/
  | bit3IndHl
  /-- `BIT 3,A` (R292) -/
  | bit3A
  /-- `BIT 4,B` (R292) -/
  | bit4B
  /-- `BIT 4,C` (R292) -/
  | bit4C
  /-- `BIT 4,D` (R292) -/
  | bit4D
  /-- `BIT 4,E` (R292) -/
  | bit4E
  /-- `BIT 4,H` (R292) -/
  | bit4H
  /-- `BIT 4,L` (R292) -/
  | bit4L
  /-- `BIT 4,(HL)` (R292) -/
  | bit4IndHl
  /-- `BIT 4,A` (R292) -/
  | bit4A
  /-- `BIT 5,B` (R292) -/
  | bit5B
  /-- `BIT 5,C` (R292) -/
  | bit5C
  /-- `BIT 5,D` (R292) -/
  | bit5D
  /-- `BIT 5,E` (R292) -/
  | bit5E
  /-- `BIT 5,H` (R292) -/
  | bit5H
  /-- `BIT 5,L` (R292) -/
  | bit5L
  /-- `BIT 5,(HL)` (R292) -/
  | bit5IndHl
  /-- `BIT 5,A` (R292) -/
  | bit5A
  /-- `BIT 6,B` (R292) -/
  | bit6B
  /-- `BIT 6,C` (R292) -/
  | bit6C
  /-- `BIT 6,D` (R292) -/
  | bit6D
  /-- `BIT 6,E` (R292) -/
  | bit6E
  /-- `BIT 6,H` (R292) -/
  | bit6H
  /-- `BIT 6,L` (R292) -/
  | bit6L
  /-- `BIT 6,(HL)` (R292) -/
  | bit6IndHl
  /-- `BIT 6,A` (R292) -/
  | bit6A
  /-- `BIT 7,B` (R292) -/
  | bit7B
  /-- `BIT 7,C` (R292) -/
  | bit7C
  /-- `BIT 7,D` (R292) -/
  | bit7D
  /-- `BIT 7,E` (R292) -/
  | bit7E
  /-- `BIT 7,H` (R292) -/
  | bit7H
  /-- `BIT 7,L` (R292) -/
  | bit7L
  /-- `BIT 7,(HL)` (R292) -/
  | bit7IndHl
  /-- `BIT 7,A` (R292) -/
  | bit7A
  /-- `RES 0,B` (R293) -/
  | res0B
  /-- `RES 0,C` (R293) -/
  | res0C
  /-- `RES 0,D` (R293) -/
  | res0D
  /-- `RES 0,E` (R293) -/
  | res0E
  /-- `RES 0,H` (R293) -/
  | res0H
  /-- `RES 0,L` (R293) -/
  | res0L
  /-- `RES 0,(HL)` (R293) -/
  | res0IndHl
  /-- `RES 0,A` (R293) -/
  | res0A
  /-- `RES 1,B` (R293) -/
  | res1B
  /-- `RES 1,C` (R293) -/
  | res1C
  /-- `RES 1,D` (R293) -/
  | res1D
  /-- `RES 1,E` (R293) -/
  | res1E
  /-- `RES 1,H` (R293) -/
  | res1H
  /-- `RES 1,L` (R293) -/
  | res1L
  /-- `RES 1,(HL)` (R293) -/
  | res1IndHl
  /-- `RES 1,A` (R293) -/
  | res1A
  /-- `RES 2,B` (R293) -/
  | res2B
  /-- `RES 2,C` (R293) -/
  | res2C
  /-- `RES 2,D` (R293) -/
  | res2D
  /-- `RES 2,E` (R293) -/
  | res2E
  /-- `RES 2,H` (R293) -/
  | res2H
  /-- `RES 2,L` (R293) -/
  | res2L
  /-- `RES 2,(HL)` (R293) -/
  | res2IndHl
  /-- `RES 2,A` (R293) -/
  | res2A
  /-- `RES 3,B` (R293) -/
  | res3B
  /-- `RES 3,C` (R293) -/
  | res3C
  /-- `RES 3,D` (R293) -/
  | res3D
  /-- `RES 3,E` (R293) -/
  | res3E
  /-- `RES 3,H` (R293) -/
  | res3H
  /-- `RES 3,L` (R293) -/
  | res3L
  /-- `RES 3,(HL)` (R293) -/
  | res3IndHl
  /-- `RES 3,A` (R293) -/
  | res3A
  /-- `RES 4,B` (R293) -/
  | res4B
  /-- `RES 4,C` (R293) -/
  | res4C
  /-- `RES 4,D` (R293) -/
  | res4D
  /-- `RES 4,E` (R293) -/
  | res4E
  /-- `RES 4,H` (R293) -/
  | res4H
  /-- `RES 4,L` (R293) -/
  | res4L
  /-- `RES 4,(HL)` (R293) -/
  | res4IndHl
  /-- `RES 4,A` (R293) -/
  | res4A
  /-- `RES 5,B` (R293) -/
  | res5B
  /-- `RES 5,C` (R293) -/
  | res5C
  /-- `RES 5,D` (R293) -/
  | res5D
  /-- `RES 5,E` (R293) -/
  | res5E
  /-- `RES 5,H` (R293) -/
  | res5H
  /-- `RES 5,L` (R293) -/
  | res5L
  /-- `RES 5,(HL)` (R293) -/
  | res5IndHl
  /-- `RES 5,A` (R293) -/
  | res5A
  /-- `RES 6,B` (R293) -/
  | res6B
  /-- `RES 6,C` (R293) -/
  | res6C
  /-- `RES 6,D` (R293) -/
  | res6D
  /-- `RES 6,E` (R293) -/
  | res6E
  /-- `RES 6,H` (R293) -/
  | res6H
  /-- `RES 6,L` (R293) -/
  | res6L
  /-- `RES 6,(HL)` (R293) -/
  | res6IndHl
  /-- `RES 6,A` (R293) -/
  | res6A
  /-- `RES 7,B` (R293) -/
  | res7B
  /-- `RES 7,C` (R293) -/
  | res7C
  /-- `RES 7,D` (R293) -/
  | res7D
  /-- `RES 7,E` (R293) -/
  | res7E
  /-- `RES 7,H` (R293) -/
  | res7H
  /-- `RES 7,L` (R293) -/
  | res7L
  /-- `RES 7,(HL)` (R293) -/
  | res7IndHl
  /-- `RES 7,A` (R293) -/
  | res7A
  /-- `SET 0,B` (R294) -/
  | set0B
  /-- `SET 0,C` (R294) -/
  | set0C
  /-- `SET 0,D` (R294) -/
  | set0D
  /-- `SET 0,E` (R294) -/
  | set0E
  /-- `SET 0,H` (R294) -/
  | set0H
  /-- `SET 0,L` (R294) -/
  | set0L
  /-- `SET 0,(HL)` (R294) -/
  | set0IndHl
  /-- `SET 0,A` (R294) -/
  | set0A
  /-- `SET 1,B` (R294) -/
  | set1B
  /-- `SET 1,C` (R294) -/
  | set1C
  /-- `SET 1,D` (R294) -/
  | set1D
  /-- `SET 1,E` (R294) -/
  | set1E
  /-- `SET 1,H` (R294) -/
  | set1H
  /-- `SET 1,L` (R294) -/
  | set1L
  /-- `SET 1,(HL)` (R294) -/
  | set1IndHl
  /-- `SET 1,A` (R294) -/
  | set1A
  /-- `SET 2,B` (R294) -/
  | set2B
  /-- `SET 2,C` (R294) -/
  | set2C
  /-- `SET 2,D` (R294) -/
  | set2D
  /-- `SET 2,E` (R294) -/
  | set2E
  /-- `SET 2,H` (R294) -/
  | set2H
  /-- `SET 2,L` (R294) -/
  | set2L
  /-- `SET 2,(HL)` (R294) -/
  | set2IndHl
  /-- `SET 2,A` (R294) -/
  | set2A
  /-- `SET 3,B` (R294) -/
  | set3B
  /-- `SET 3,C` (R294) -/
  | set3C
  /-- `SET 3,D` (R294) -/
  | set3D
  /-- `SET 3,E` (R294) -/
  | set3E
  /-- `SET 3,H` (R294) -/
  | set3H
  /-- `SET 3,L` (R294) -/
  | set3L
  /-- `SET 3,(HL)` (R294) -/
  | set3IndHl
  /-- `SET 3,A` (R294) -/
  | set3A
  /-- `SET 4,B` (R294) -/
  | set4B
  /-- `SET 4,C` (R294) -/
  | set4C
  /-- `SET 4,D` (R294) -/
  | set4D
  /-- `SET 4,E` (R294) -/
  | set4E
  /-- `SET 4,H` (R294) -/
  | set4H
  /-- `SET 4,L` (R294) -/
  | set4L
  /-- `SET 4,(HL)` (R294) -/
  | set4IndHl
  /-- `SET 4,A` (R294) -/
  | set4A
  /-- `SET 5,B` (R294) -/
  | set5B
  /-- `SET 5,C` (R294) -/
  | set5C
  /-- `SET 5,D` (R294) -/
  | set5D
  /-- `SET 5,E` (R294) -/
  | set5E
  /-- `SET 5,H` (R294) -/
  | set5H
  /-- `SET 5,L` (R294) -/
  | set5L
  /-- `SET 5,(HL)` (R294) -/
  | set5IndHl
  /-- `SET 5,A` (R294) -/
  | set5A
  /-- `SET 6,B` (R294) -/
  | set6B
  /-- `SET 6,C` (R294) -/
  | set6C
  /-- `SET 6,D` (R294) -/
  | set6D
  /-- `SET 6,E` (R294) -/
  | set6E
  /-- `SET 6,H` (R294) -/
  | set6H
  /-- `SET 6,L` (R294) -/
  | set6L
  /-- `SET 6,(HL)` (R294) -/
  | set6IndHl
  /-- `SET 6,A` (R294) -/
  | set6A
  /-- `SET 7,B` (R294) -/
  | set7B
  /-- `SET 7,C` (R294) -/
  | set7C
  /-- `SET 7,D` (R294) -/
  | set7D
  /-- `SET 7,E` (R294) -/
  | set7E
  /-- `SET 7,H` (R294) -/
  | set7H
  /-- `SET 7,L` (R294) -/
  | set7L
  /-- `SET 7,(HL)` (R294) -/
  | set7IndHl
  /-- `SET 7,A` (R294) -/
  | set7A
  deriving DecidableEq, Repr

/-- `LD rd,rs` (40_loads.md R200). -/
def Instr.ldReg (rd rs : Reg8) : Instr :=
  match rd, rs with
  | .b, .b => .ldBB
  | .b, .c => .ldBC
  | .b, .d => .ldBD
  | .b, .e => .ldBE
  | .b, .h => .ldBH
  | .b, .l => .ldBL
  | .b, .a => .ldBA
  | .c, .b => .ldCB
  | .c, .c => .ldCC
  | .c, .d => .ldCD
  | .c, .e => .ldCE
  | .c, .h => .ldCH
  | .c, .l => .ldCL
  | .c, .a => .ldCA
  | .d, .b => .ldDB
  | .d, .c => .ldDC
  | .d, .d => .ldDD
  | .d, .e => .ldDE
  | .d, .h => .ldDH
  | .d, .l => .ldDL
  | .d, .a => .ldDA
  | .e, .b => .ldEB
  | .e, .c => .ldEC
  | .e, .d => .ldED
  | .e, .e => .ldEE
  | .e, .h => .ldEH
  | .e, .l => .ldEL
  | .e, .a => .ldEA
  | .h, .b => .ldHB
  | .h, .c => .ldHC
  | .h, .d => .ldHD
  | .h, .e => .ldHE
  | .h, .h => .ldHH
  | .h, .l => .ldHL
  | .h, .a => .ldHA
  | .l, .b => .ldLB
  | .l, .c => .ldLC
  | .l, .d => .ldLD
  | .l, .e => .ldLE
  | .l, .h => .ldLH
  | .l, .l => .ldLL
  | .l, .a => .ldLA
  | .a, .b => .ldAB
  | .a, .c => .ldAC
  | .a, .d => .ldAD
  | .a, .e => .ldAE
  | .a, .h => .ldAH
  | .a, .l => .ldAL
  | .a, .a => .ldAA

/-- `LD rd,(HL)` (40_loads.md R201). -/
def Instr.ldRegHl (rd : Reg8) : Instr :=
  match rd with
  | .b => .ldBIndHl
  | .c => .ldCIndHl
  | .d => .ldDIndHl
  | .e => .ldEIndHl
  | .h => .ldHIndHl
  | .l => .ldLIndHl
  | .a => .ldAIndHl

/-- `LD (HL),rs` (40_loads.md R202). -/
def Instr.ldHlReg (rs : Reg8) : Instr :=
  match rs with
  | .b => .ldIndHlB
  | .c => .ldIndHlC
  | .d => .ldIndHlD
  | .e => .ldIndHlE
  | .h => .ldIndHlH
  | .l => .ldIndHlL
  | .a => .ldIndHlA

/-- `LD rd,d8` and `LD (HL),d8` (40_loads.md R203, R204). -/
def Instr.ldImm8 (x : R8) (n : Byte) : Instr :=
  match x with
  | .b => .ldBD8 n
  | .c => .ldCD8 n
  | .d => .ldDD8 n
  | .e => .ldED8 n
  | .h => .ldHD8 n
  | .l => .ldLD8 n
  | .indHl => .ldIndHlD8 n
  | .a => .ldAD8 n

/-- `LD rr,d16` (40_loads.md R219). -/
def Instr.ldPair (p : R16) (n : Word) : Instr :=
  match p with
  | .bc => .ldBcD16 n
  | .de => .ldDeD16 n
  | .hl => .ldHlD16 n
  | .sp => .ldSpD16 n

/-- `PUSH rr` (40_loads.md R223). -/
def Instr.push (p : R16Stk) : Instr :=
  match p with
  | .bc => .pushBc
  | .de => .pushDe
  | .hl => .pushHl
  | .af => .pushAf

/-- `POP rr` (40_loads.md R224, R225). -/
def Instr.pop (p : R16Stk) : Instr :=
  match p with
  | .bc => .popBc
  | .de => .popDe
  | .hl => .popHl
  | .af => .popAf

/-- The ALU forms on a register or on (HL), `10 ooo zzz` (41_alu8.md R239). -/
def Instr.alu (o : AluOp) (x : R8) : Instr :=
  match o, x with
  | .add, .b => .addAB
  | .add, .c => .addAC
  | .add, .d => .addAD
  | .add, .e => .addAE
  | .add, .h => .addAH
  | .add, .l => .addAL
  | .add, .indHl => .addAIndHl
  | .add, .a => .addAA
  | .adc, .b => .adcAB
  | .adc, .c => .adcAC
  | .adc, .d => .adcAD
  | .adc, .e => .adcAE
  | .adc, .h => .adcAH
  | .adc, .l => .adcAL
  | .adc, .indHl => .adcAIndHl
  | .adc, .a => .adcAA
  | .sub, .b => .subAB
  | .sub, .c => .subAC
  | .sub, .d => .subAD
  | .sub, .e => .subAE
  | .sub, .h => .subAH
  | .sub, .l => .subAL
  | .sub, .indHl => .subAIndHl
  | .sub, .a => .subAA
  | .sbc, .b => .sbcAB
  | .sbc, .c => .sbcAC
  | .sbc, .d => .sbcAD
  | .sbc, .e => .sbcAE
  | .sbc, .h => .sbcAH
  | .sbc, .l => .sbcAL
  | .sbc, .indHl => .sbcAIndHl
  | .sbc, .a => .sbcAA
  | .and, .b => .andAB
  | .and, .c => .andAC
  | .and, .d => .andAD
  | .and, .e => .andAE
  | .and, .h => .andAH
  | .and, .l => .andAL
  | .and, .indHl => .andAIndHl
  | .and, .a => .andAA
  | .xor, .b => .xorAB
  | .xor, .c => .xorAC
  | .xor, .d => .xorAD
  | .xor, .e => .xorAE
  | .xor, .h => .xorAH
  | .xor, .l => .xorAL
  | .xor, .indHl => .xorAIndHl
  | .xor, .a => .xorAA
  | .or, .b => .orAB
  | .or, .c => .orAC
  | .or, .d => .orAD
  | .or, .e => .orAE
  | .or, .h => .orAH
  | .or, .l => .orAL
  | .or, .indHl => .orAIndHl
  | .or, .a => .orAA
  | .cp, .b => .cpAB
  | .cp, .c => .cpAC
  | .cp, .d => .cpAD
  | .cp, .e => .cpAE
  | .cp, .h => .cpAH
  | .cp, .l => .cpAL
  | .cp, .indHl => .cpAIndHl
  | .cp, .a => .cpAA

/-- The ALU forms with an immediate, `11 ooo 110` (41_alu8.md R239). -/
def Instr.aluImm (o : AluOp) (n : Byte) : Instr :=
  match o with
  | .add => .addAD8 n
  | .adc => .adcAD8 n
  | .sub => .subAD8 n
  | .sbc => .sbcAD8 n
  | .and => .andAD8 n
  | .xor => .xorAD8 n
  | .or => .orAD8 n
  | .cp => .cpAD8 n

/-- `INC r8` and `INC (HL)` (41_alu8.md R248, R249). -/
def Instr.inc (x : R8) : Instr :=
  match x with
  | .b => .incB
  | .c => .incC
  | .d => .incD
  | .e => .incE
  | .h => .incH
  | .l => .incL
  | .indHl => .incIndHl
  | .a => .incA

/-- `DEC r8` and `DEC (HL)` (41_alu8.md R250, R251). -/
def Instr.dec (x : R8) : Instr :=
  match x with
  | .b => .decB
  | .c => .decC
  | .d => .decD
  | .e => .decE
  | .h => .decH
  | .l => .decL
  | .indHl => .decIndHl
  | .a => .decA

/-- `ADD HL,rr` (42_alu16.md R265). -/
def Instr.addHl (p : R16) : Instr :=
  match p with
  | .bc => .addHlBc
  | .de => .addHlDe
  | .hl => .addHlHl
  | .sp => .addHlSp

/-- `INC rr` (42_alu16.md R266). -/
def Instr.incPair (p : R16) : Instr :=
  match p with
  | .bc => .incBc
  | .de => .incDe
  | .hl => .incHl
  | .sp => .incSp

/-- `DEC rr` (42_alu16.md R267). -/
def Instr.decPair (p : R16) : Instr :=
  match p with
  | .bc => .decBc
  | .de => .decDe
  | .hl => .decHl
  | .sp => .decSp

/-- `JR cc,e8` (44_control.md R315). -/
def Instr.jrCc (cc : Cond) (e : Byte) : Instr :=
  match cc with
  | .nz => .jrNzE8 e
  | .z => .jrZE8 e
  | .nc => .jrNcE8 e
  | .c => .jrCE8 e

/-- `JP cc,a16` (44_control.md R312). -/
def Instr.jpCc (cc : Cond) (a : Word) : Instr :=
  match cc with
  | .nz => .jpNzA16 a
  | .z => .jpZA16 a
  | .nc => .jpNcA16 a
  | .c => .jpCA16 a

/-- `CALL cc,a16` (44_control.md R317). -/
def Instr.callCc (cc : Cond) (a : Word) : Instr :=
  match cc with
  | .nz => .callNzA16 a
  | .z => .callZA16 a
  | .nc => .callNcA16 a
  | .c => .callCA16 a

/-- `RET cc` (44_control.md R319). -/
def Instr.retCc (cc : Cond) : Instr :=
  match cc with
  | .nz => .retNz
  | .z => .retZ
  | .nc => .retNc
  | .c => .retC

/-- `RST t` with `t = y * 8` (44_control.md R320). -/
def Instr.rst (y : Fin 8) : Instr :=
  match y with
  | 0 => .rst00
  | 1 => .rst08
  | 2 => .rst10
  | 3 => .rst18
  | 4 => .rst20
  | 5 => .rst28
  | 6 => .rst30
  | 7 => .rst38

/-- The CB rotates and shifts, `00 ooo rrr` (43_rotate_shift_bit.md R284 to R291). -/
def Instr.rot (o : RotOp) (x : R8) : Instr :=
  match o, x with
  | .rlc, .b => .rlcB
  | .rlc, .c => .rlcC
  | .rlc, .d => .rlcD
  | .rlc, .e => .rlcE
  | .rlc, .h => .rlcH
  | .rlc, .l => .rlcL
  | .rlc, .indHl => .rlcIndHl
  | .rlc, .a => .rlcA
  | .rrc, .b => .rrcB
  | .rrc, .c => .rrcC
  | .rrc, .d => .rrcD
  | .rrc, .e => .rrcE
  | .rrc, .h => .rrcH
  | .rrc, .l => .rrcL
  | .rrc, .indHl => .rrcIndHl
  | .rrc, .a => .rrcA
  | .rl, .b => .rlB
  | .rl, .c => .rlC
  | .rl, .d => .rlD
  | .rl, .e => .rlE
  | .rl, .h => .rlH
  | .rl, .l => .rlL
  | .rl, .indHl => .rlIndHl
  | .rl, .a => .rlA
  | .rr, .b => .rrB
  | .rr, .c => .rrC
  | .rr, .d => .rrD
  | .rr, .e => .rrE
  | .rr, .h => .rrH
  | .rr, .l => .rrL
  | .rr, .indHl => .rrIndHl
  | .rr, .a => .rrA
  | .sla, .b => .slaB
  | .sla, .c => .slaC
  | .sla, .d => .slaD
  | .sla, .e => .slaE
  | .sla, .h => .slaH
  | .sla, .l => .slaL
  | .sla, .indHl => .slaIndHl
  | .sla, .a => .slaA
  | .sra, .b => .sraB
  | .sra, .c => .sraC
  | .sra, .d => .sraD
  | .sra, .e => .sraE
  | .sra, .h => .sraH
  | .sra, .l => .sraL
  | .sra, .indHl => .sraIndHl
  | .sra, .a => .sraA
  | .swap, .b => .swapB
  | .swap, .c => .swapC
  | .swap, .d => .swapD
  | .swap, .e => .swapE
  | .swap, .h => .swapH
  | .swap, .l => .swapL
  | .swap, .indHl => .swapIndHl
  | .swap, .a => .swapA
  | .srl, .b => .srlB
  | .srl, .c => .srlC
  | .srl, .d => .srlD
  | .srl, .e => .srlE
  | .srl, .h => .srlH
  | .srl, .l => .srlL
  | .srl, .indHl => .srlIndHl
  | .srl, .a => .srlA

/-- `BIT b,r` (43_rotate_shift_bit.md R292). -/
def Instr.bit (b : Fin 8) (x : R8) : Instr :=
  match b, x with
  | 0, .b => .bit0B
  | 0, .c => .bit0C
  | 0, .d => .bit0D
  | 0, .e => .bit0E
  | 0, .h => .bit0H
  | 0, .l => .bit0L
  | 0, .indHl => .bit0IndHl
  | 0, .a => .bit0A
  | 1, .b => .bit1B
  | 1, .c => .bit1C
  | 1, .d => .bit1D
  | 1, .e => .bit1E
  | 1, .h => .bit1H
  | 1, .l => .bit1L
  | 1, .indHl => .bit1IndHl
  | 1, .a => .bit1A
  | 2, .b => .bit2B
  | 2, .c => .bit2C
  | 2, .d => .bit2D
  | 2, .e => .bit2E
  | 2, .h => .bit2H
  | 2, .l => .bit2L
  | 2, .indHl => .bit2IndHl
  | 2, .a => .bit2A
  | 3, .b => .bit3B
  | 3, .c => .bit3C
  | 3, .d => .bit3D
  | 3, .e => .bit3E
  | 3, .h => .bit3H
  | 3, .l => .bit3L
  | 3, .indHl => .bit3IndHl
  | 3, .a => .bit3A
  | 4, .b => .bit4B
  | 4, .c => .bit4C
  | 4, .d => .bit4D
  | 4, .e => .bit4E
  | 4, .h => .bit4H
  | 4, .l => .bit4L
  | 4, .indHl => .bit4IndHl
  | 4, .a => .bit4A
  | 5, .b => .bit5B
  | 5, .c => .bit5C
  | 5, .d => .bit5D
  | 5, .e => .bit5E
  | 5, .h => .bit5H
  | 5, .l => .bit5L
  | 5, .indHl => .bit5IndHl
  | 5, .a => .bit5A
  | 6, .b => .bit6B
  | 6, .c => .bit6C
  | 6, .d => .bit6D
  | 6, .e => .bit6E
  | 6, .h => .bit6H
  | 6, .l => .bit6L
  | 6, .indHl => .bit6IndHl
  | 6, .a => .bit6A
  | 7, .b => .bit7B
  | 7, .c => .bit7C
  | 7, .d => .bit7D
  | 7, .e => .bit7E
  | 7, .h => .bit7H
  | 7, .l => .bit7L
  | 7, .indHl => .bit7IndHl
  | 7, .a => .bit7A

/-- `RES b,r` (43_rotate_shift_bit.md R293). -/
def Instr.res (b : Fin 8) (x : R8) : Instr :=
  match b, x with
  | 0, .b => .res0B
  | 0, .c => .res0C
  | 0, .d => .res0D
  | 0, .e => .res0E
  | 0, .h => .res0H
  | 0, .l => .res0L
  | 0, .indHl => .res0IndHl
  | 0, .a => .res0A
  | 1, .b => .res1B
  | 1, .c => .res1C
  | 1, .d => .res1D
  | 1, .e => .res1E
  | 1, .h => .res1H
  | 1, .l => .res1L
  | 1, .indHl => .res1IndHl
  | 1, .a => .res1A
  | 2, .b => .res2B
  | 2, .c => .res2C
  | 2, .d => .res2D
  | 2, .e => .res2E
  | 2, .h => .res2H
  | 2, .l => .res2L
  | 2, .indHl => .res2IndHl
  | 2, .a => .res2A
  | 3, .b => .res3B
  | 3, .c => .res3C
  | 3, .d => .res3D
  | 3, .e => .res3E
  | 3, .h => .res3H
  | 3, .l => .res3L
  | 3, .indHl => .res3IndHl
  | 3, .a => .res3A
  | 4, .b => .res4B
  | 4, .c => .res4C
  | 4, .d => .res4D
  | 4, .e => .res4E
  | 4, .h => .res4H
  | 4, .l => .res4L
  | 4, .indHl => .res4IndHl
  | 4, .a => .res4A
  | 5, .b => .res5B
  | 5, .c => .res5C
  | 5, .d => .res5D
  | 5, .e => .res5E
  | 5, .h => .res5H
  | 5, .l => .res5L
  | 5, .indHl => .res5IndHl
  | 5, .a => .res5A
  | 6, .b => .res6B
  | 6, .c => .res6C
  | 6, .d => .res6D
  | 6, .e => .res6E
  | 6, .h => .res6H
  | 6, .l => .res6L
  | 6, .indHl => .res6IndHl
  | 6, .a => .res6A
  | 7, .b => .res7B
  | 7, .c => .res7C
  | 7, .d => .res7D
  | 7, .e => .res7E
  | 7, .h => .res7H
  | 7, .l => .res7L
  | 7, .indHl => .res7IndHl
  | 7, .a => .res7A

/-- `SET b,r` (43_rotate_shift_bit.md R294). -/
def Instr.set (b : Fin 8) (x : R8) : Instr :=
  match b, x with
  | 0, .b => .set0B
  | 0, .c => .set0C
  | 0, .d => .set0D
  | 0, .e => .set0E
  | 0, .h => .set0H
  | 0, .l => .set0L
  | 0, .indHl => .set0IndHl
  | 0, .a => .set0A
  | 1, .b => .set1B
  | 1, .c => .set1C
  | 1, .d => .set1D
  | 1, .e => .set1E
  | 1, .h => .set1H
  | 1, .l => .set1L
  | 1, .indHl => .set1IndHl
  | 1, .a => .set1A
  | 2, .b => .set2B
  | 2, .c => .set2C
  | 2, .d => .set2D
  | 2, .e => .set2E
  | 2, .h => .set2H
  | 2, .l => .set2L
  | 2, .indHl => .set2IndHl
  | 2, .a => .set2A
  | 3, .b => .set3B
  | 3, .c => .set3C
  | 3, .d => .set3D
  | 3, .e => .set3E
  | 3, .h => .set3H
  | 3, .l => .set3L
  | 3, .indHl => .set3IndHl
  | 3, .a => .set3A
  | 4, .b => .set4B
  | 4, .c => .set4C
  | 4, .d => .set4D
  | 4, .e => .set4E
  | 4, .h => .set4H
  | 4, .l => .set4L
  | 4, .indHl => .set4IndHl
  | 4, .a => .set4A
  | 5, .b => .set5B
  | 5, .c => .set5C
  | 5, .d => .set5D
  | 5, .e => .set5E
  | 5, .h => .set5H
  | 5, .l => .set5L
  | 5, .indHl => .set5IndHl
  | 5, .a => .set5A
  | 6, .b => .set6B
  | 6, .c => .set6C
  | 6, .d => .set6D
  | 6, .e => .set6E
  | 6, .h => .set6H
  | 6, .l => .set6L
  | 6, .indHl => .set6IndHl
  | 6, .a => .set6A
  | 7, .b => .set7B
  | 7, .c => .set7C
  | 7, .d => .set7D
  | 7, .e => .set7E
  | 7, .h => .set7H
  | 7, .l => .set7L
  | 7, .indHl => .set7IndHl
  | 7, .a => .set7A

/-- The 11 bytes without a decode entry and the constructors that stand for them (30_encoding.md R162). -/
def Instr.illegalBytes : List (Byte × Instr) :=
  [(0xD3, .illegalD3), (0xDB, .illegalDB), (0xDD, .illegalDD), (0xE3, .illegalE3), (0xE4, .illegalE4), (0xEB, .illegalEB), (0xEC, .illegalEC), (0xED, .illegalED), (0xF4, .illegalF4), (0xFC, .illegalFC), (0xFD, .illegalFD)]

end Sys2Proof
end

