-- ==== Sys2Proof/WellFormed.lean ====
section
/-!
DEFINITION. Which terms of `Instr` the decoder can deliver. Every operand is a bit vector of its field's own width, so
the one term that stands for no fetched instruction is the bare prefix (45_misc.md R331).
-/

namespace Sys2Proof

/-- A term the decoder can deliver: all but `PREFIX CB`, which "introduces the CB instructions" and is resolved with its
CB byte to the instruction it selects (45_misc.md R331, 30_encoding.md R161, log entry 9). -/
def Instr.wf : Instr → Bool
  | .prefixCb _ => false
  | _ => true

end Sys2Proof
end

