-- ==== Sys2Proof/Config.lean ====
section
/-!
DEFINITION. What an implementation fixes and what the spec leaves open: the named parameters of 00_scope.md R9 as one
plain record (`Params`, carried by the state, log entry 1), and the draws of the spec as constants without a body
(log entries 2, 6, 7, 8), so that no proof can rest on a value of theirs.
-/

namespace Sys2Proof

/-- One pixel, the four bytes R, G, B, A of 60_exceptions.md R466. -/
structure Rgba where
  r : Byte
  g : Byte
  b : Byte
  a : Byte
  deriving DecidableEq, Repr, Inhabited

/-- The parameter `STOP_MODE` of 00_scope.md R9 (92_eei_decisions.md D6). -/
inductive StopMode where
  /-- STOP suspends the CPU until a button press. -/
  | suspend
  /-- STOP only sets the flag. -/
  | flagOnly
  deriving DecidableEq, Repr

/-- The five MBC3 clock register indices 0x08..0x0C (10_state.md R42). -/
inductive RtcReg where
  | r08
  | r09
  | r0A
  | r0B
  | r0C
  deriving DecidableEq, Repr

/-- The memories whose reset contents the spec calls `INIT_MEM` (10_state.md R48). -/
inductive Region where
  /-- `mem`: WRAM, HRAM and the plain addresses without a stated reset value, by address. -/
  | mem
  /-- `vram[0]`, by offset from 0x8000. -/
  | vram0
  /-- `vram[1]`, by offset from 0x8000. -/
  | vram1
  /-- `oam`, by offset from 0xFE00. -/
  | oam
  /-- `ext_ram`, by `bank * 0x2000 + offset`. -/
  | extRam
  /-- `bg_pal`, by index. -/
  | bgPal
  deriving DecidableEq, Repr

/-- The 8-bit registers whose reset value is a draw when a boot ROM runs (10_state.md R53). -/
inductive BootReg where
  | a
  | f
  | b
  | c
  | d
  | e
  | h
  | l
  deriving DecidableEq, Repr

/-- FREE VALUE `INIT_MEM` (10_state.md R48, 92_eei_decisions.md D11): the byte a memory holds at reset. Log entry 2. -/
opaque Config.initMem : Region → Nat → Byte

/-- FREE VALUE: the pixel (row, column) of a framebuffer row not yet rendered (60_exceptions.md R466). Log entry 7. -/
opaque Config.initPixel : Nat → Nat → Rgba

/-- FREE VALUE `RTC_READ` (20_memory.md R114, 92_eei_decisions.md D19): what a read of a selected MBC3 clock register
returns, by register, address and `total_cycles`. Log entry 6. -/
opaque Config.rtcRead : RtcReg → Nat → Nat → Byte

/-- FREE VALUE: an 8-bit register at reset when a boot ROM runs (10_state.md R53, D41). Log entry 8. -/
opaque Config.bootReg : BootReg → Byte

/-- FREE VALUE: SP at reset when a boot ROM runs (10_state.md R53, D41). Log entry 8. -/
opaque Config.bootSp : Word

/-- The parameters of 00_scope.md R9 that are plain data, each with the default R9 gives it. `CART` is the cartridge
(`Cart.rom`); `INIT_MEM` and `RTC_READ` are the free values above. Log entry 1. -/
structure Params where
  /-- `BOOT_ROM`: the 256 bytes as (offset, byte) pairs, an unlisted offset being 0x00. -/
  bootRom : Option (List Host.Cell) := none
  /-- `COLOR_MODE`. -/
  colorMode : Bool := false
  /-- `ILLEGAL_OP_CYCLES`. -/
  illegalOpCycles : Nat := 4
  /-- `IRQ_SERVICE_CYCLES`. -/
  irqServiceCycles : Nat := 20
  /-- `HALT_IDLE_CYCLES`. -/
  haltIdleCycles : Nat := 4
  /-- `EI_DELAY`. -/
  eiDelay : Bool := true
  /-- `STOP_MODE`. -/
  stopMode : StopMode := .suspend
  /-- `SHADE_RGBA` of shade 0, the lightest. -/
  shade0 : Rgba := ⟨0xFF, 0xFF, 0xFF, 0xFF⟩
  /-- `SHADE_RGBA` of shade 1. -/
  shade1 : Rgba := ⟨0xC0, 0xC0, 0xC0, 0xFF⟩
  /-- `SHADE_RGBA` of shade 2. -/
  shade2 : Rgba := ⟨0x60, 0x60, 0x60, 0xFF⟩
  /-- `SHADE_RGBA` of shade 3, the darkest. -/
  shade3 : Rgba := ⟨0x00, 0x00, 0x00, 0xFF⟩
  deriving DecidableEq, Repr

end Sys2Proof
end

