-- ==== Sys2Proof/Machine/Mem.lean ====
section
/-!
DEFINITION. A memory as plain data: (address, byte) pairs in one canonical form, addresses strictly rising. An unlisted
address has no value of the list's own: whoever reads the memory says what it reads as (log entries 2 and 4).
-/

namespace Sys2Proof.Machine

/-- A memory: `Host.Cell` pairs, addresses strictly rising (`Mem.wf`). -/
abbrev Mem := List Host.Cell

/-- The byte listed at an address, if any. -/
def Mem.get? : Mem → Nat → Option Byte
  | [], _ => none
  | (k, v) :: m, a => if a = k then some v else Mem.get? m a

/-- List a byte at an address, keeping the addresses rising. -/
def Mem.put : Mem → Nat → Byte → Mem
  | [], a, v => [(a, v)]
  | (k, w) :: m, a, v =>
    if a < k then (a, v) :: (k, w) :: m
    else if a = k then (a, v) :: m
    else (k, w) :: Mem.put m a v

/-- Unlist an address. -/
def Mem.erase : Mem → Nat → Mem
  | [], _ => []
  | (k, w) :: m, a => if a = k then m else (k, w) :: Mem.erase m a

/-- Write a byte where an unlisted address has the known value `dflt` (or none): the value an unlisted address reads as
is not listed, so that equal memories are equal lists. -/
def Mem.write (dflt : Option Byte) (m : Mem) (a : Nat) (v : Byte) : Mem :=
  if dflt = some v then m.erase a else m.put a v

/-- The canonical form over the addresses below `bound`: addresses strictly rising, none listed with the known value an
unlisted address reads as. -/
def Mem.wf (bound : Nat) (dflt : Nat → Option Byte) : Mem → Bool
  | [] => true
  | (k, v) :: m => decide (k < bound) && decide (dflt k ≠ some v) && m.all (fun c => decide (k < c.1)) && Mem.wf bound dflt m

/-- A memory whose unlisted bytes have no known value (draws). -/
def noDefault : Nat → Option Byte := fun _ => none

/-- A byte list of a fixed length held sparsely: an unlisted offset below `size` is 0x00. -/
structure Rom where
  size : Nat
  bytes : Mem
  deriving DecidableEq, Repr

/-- The byte at an offset: 0xFF past the end (20_memory.md R89, R92). -/
def Rom.read (r : Rom) (o : Nat) : Byte :=
  if o < r.size then (r.bytes.get? o).getD 0x00 else 0xFF

/-- The same byte list with one byte replaced; the list grows when the offset lies past its end. -/
def Rom.store (r : Rom) (o : Nat) (v : Byte) : Rom :=
  ⟨max r.size (o + 1), r.bytes.write (some 0x00) o v⟩

/-- The canonical form of a byte list: offsets rising and below `size`, no 0x00 listed. -/
def Rom.wf (r : Rom) : Bool := Mem.wf r.size (fun _ => some 0x00) r.bytes

end Sys2Proof.Machine
end

