-- ==== Sys2Proof/Machine/Cart.lean ====
section
/-!
DEFINITION. The cartridge as the host loads it: its controller kind and its banks (10_state.md R41, 20_memory.md R96), and
the bytes the plain I/O addresses hold at reset (10_state.md R49).
-/

namespace Sys2Proof.Machine

/-- `ctype` (10_state.md R41). -/
inductive CartType where
  | romOnly
  | mbc1
  | mbc2
  | mbc3
  | mbc5
  deriving DecidableEq, Repr

/-- The controller kind a header byte 0x147 names; none for a byte outside the list of 20_memory.md R96. -/
def cartTypeOf? (v : Byte) : Option CartType :=
  if v = 0x00 then some .romOnly
  else if v = 0x01 ∨ v = 0x02 ∨ v = 0x03 then some .mbc1
  else if v = 0x05 ∨ v = 0x06 then some .mbc2
  else if v = 0x0F ∨ v = 0x10 ∨ v = 0x11 ∨ v = 0x12 ∨ v = 0x13 then some .mbc3
  else if v = 0x19 ∨ v = 0x1A ∨ v = 0x1B ∨ v = 0x1C ∨ v = 0x1D ∨ v = 0x1E then some .mbc5
  else none

/-- The controller kind of a cartridge: an unsupported type byte is treated as ROM-only (20_memory.md R96, R97). -/
def cartType (rom : Rom) : CartType := (cartTypeOf? (rom.read 0x147)).getD .romOnly

/-- `nbanks = ceil(len(cart) / 0x4000)` (10_state.md R41). -/
def nbanks (rom : Rom) : Nat := (rom.size + 0x3FFF) / 0x4000

/-- The published post-boot bytes of the sound addresses; every other plain I/O address is 0x00 (10_state.md R49). -/
def ioReset : Nat → Byte
  | 0xFF10 => 0x80
  | 0xFF11 => 0xBF
  | 0xFF12 => 0xF3
  | 0xFF14 => 0xBF
  | 0xFF16 => 0x3F
  | 0xFF17 => 0x00
  | 0xFF19 => 0xBF
  | 0xFF1A => 0x7F
  | 0xFF1B => 0xFF
  | 0xFF1C => 0x9F
  | 0xFF1E => 0xBF
  | 0xFF20 => 0xFF
  | 0xFF21 => 0x00
  | 0xFF22 => 0x00
  | 0xFF23 => 0xBF
  | 0xFF24 => 0x77
  | 0xFF25 => 0xF3
  | 0xFF26 => 0xF1
  | _ => 0x00

/-- What an unlisted address of `mem` is known to read as: the stated reset bytes at 0xFF00-0xFF7F (10_state.md R49), no known
value elsewhere, where the reset contents are the draw `INIT_MEM` (10_state.md R48; log entries 2, 3, 4). -/
def memDefault (a : Nat) : Option Byte :=
  if 0xFF00 ≤ a ∧ a ≤ 0xFF7F then some (ioReset a) else none

end Sys2Proof.Machine
end

