-- ==== Sys2Proof/Machine/State.lean ====
section
/-!
DEFINITION. The whole state of the block as plain data, the reasons a step can stop, and the state after reset
(10_state.md, 70_reset_and_hazards.md R500 to R502).
-/

namespace Sys2Proof.Machine

/-- The machine has no fault: "The machine has no synchronous exception, trap, fault or cause code" (60_exceptions.md R403;
93_implementation_defined.md: "No behaviour of this machine is a fault"). The type has no constructor, so nothing raises one. -/
inductive Fault : Type
  deriving DecidableEq, Repr

/-- Why the model gives no next state. -/
inductive Refusal where
  /-- Raised by an arm of `exec` whose instruction has no meaning yet; no arm does. Safe: nothing is claimed of such a step. -/
  | notModelled (mnemonic : String)
  /-- Raised by `step` if the three fetched bytes held no instruction, which never happens: every byte decodes
  (30_encoding.md R160 to R162). Safe: a stop where the machine would go on. -/
  | undecodable (e : DecodeError)
  /-- Raised by the host move `loadCart` for a cartridge shorter than 0x150 bytes, which is outside the model's domain
  (00_scope.md R9, 93_implementation_defined.md). Safe: the model takes no such run. -/
  | cartTooShort (size : Nat)
  deriving DecidableEq, Repr

/-- An entry of the diagnostics sink (60_exceptions.md R404). -/
inductive DiagEvent where
  /-- An illegal opcode byte and its address (45_misc.md R334). -/
  | unknownOpcode (op : Byte) (addr : Word)
  /-- An unsupported header byte 0x147, once at load (20_memory.md R97). -/
  | unsupportedCartridge (type : Byte)
  /-- A bank write's address and value and the resulting `rom_bank` (20_memory.md R117). -/
  | bankCoerced (addr : Word) (v : Byte) (bank : BitVec 9)
  deriving DecidableEq, Repr

/-- The CPU (10_state.md R30 to R37). The pairs AF, BC, DE, HL are views of the eight registers (R31). -/
structure Cpu where
  a : Byte
  /-- bit 7 Z, bit 6 N, bit 5 H, bit 4 C, bits 3-0 always 0 (R33) -/
  f : Byte
  b : Byte
  c : Byte
  d : Byte
  e : Byte
  h : Byte
  l : Byte
  sp : Word
  pc : Word
  ime : Bool
  imePending : Bool
  halt : Bool
  stop : Bool
  deriving DecidableEq, Repr

/-- The five MBC3 clock registers (10_state.md R42). -/
structure Rtc where
  r08 : Byte
  r09 : Byte
  r0A : Byte
  r0B : Byte
  r0C : Byte
  deriving DecidableEq, Repr

/-- The cartridge and its controller (10_state.md R41 to R43). -/
structure Cart where
  /-- `cart`, never written by the machine (R41) -/
  rom : Rom
  ctype : CartType
  romBank : BitVec 9
  ramBank : BitVec 4
  ramEnabled : Bool
  /-- 0 ROM-banking, 1 RAM-banking (MBC1) -/
  bankMode : Bool
  rtcEnabled : Bool
  rtcSelect : Option RtcReg
  rtc : Rtc
  /-- `ext_ram`, keyed by `bank * 0x2000 + offset` -/
  extRam : Mem
  deriving DecidableEq, Repr

/-- The PPU (10_state.md R46, R47). -/
structure Ppu where
  vram0 : Mem
  vram1 : Mem
  oam : Mem
  bgPal : Mem
  /-- `fb`: the rows rendered so far, (line, 160 pixels), lines strictly rising -/
  fb : List (Nat × List Rgba)
  lcdc : Byte
  stat : Byte
  scy : Byte
  scx : Byte
  ly : Byte
  lyc : Byte
  dma : Byte
  bgp : Byte
  obp0 : Byte
  obp1 : Byte
  wy : Byte
  wx : Byte
  vbk : Bool
  bcps : Byte
  dot : Nat
  deriving DecidableEq, Repr

/-- The timer (10_state.md R50). -/
structure Timer where
  div : Byte
  tima : Byte
  tma : Byte
  /-- bits 2-0 of TAC; bits 7-3 read 1 -/
  tac : BitVec 3
  divCounter : Nat
  timaCounter : Nat
  deriving DecidableEq, Repr

/-- The joypad (10_state.md R51). -/
structure Joypad where
  latch : BitVec 2
  dirMask : BitVec 4
  btnMask : BitVec 4
  deriving DecidableEq, Repr

/-- The state of the block (10_state.md), with the parameters it runs under (00_scope.md R9, log entry 1). -/
structure State where
  par : Params
  cpu : Cpu
  cart : Cart
  ppu : Ppu
  timer : Timer
  joy : Joypad
  /-- `mem`: WRAM, HRAM and the plain addresses (10_state.md R40), keyed by address -/
  mem : Mem
  booting : Bool
  /-- IF, 0xFF0F (10_state.md R45) -/
  iflag : Byte
  /-- IE, 0xFFFF (10_state.md R45) -/
  ie : Byte
  stepCycles : Nat
  totalCycles : Nat
  diag : List DiagEvent
  deriving DecidableEq, Repr

/-- The CPU after reset: the published post-boot values without a boot ROM (10_state.md R52), draws with one (R53). -/
def Cpu.reset (p : Params) : Cpu :=
  match p.bootRom with
  | none =>
    { a := if p.colorMode then 0x11 else 0x01, f := 0xB0, b := 0x00, c := 0x13, d := 0x00, e := 0xD8, h := 0x01, l := 0x4D,
      sp := 0xFFFE, pc := 0x0100, ime := false, imePending := false, halt := false, stop := false }
  | some _ =>
    { a := Config.bootReg .a, f := maskF (Config.bootReg .f), b := Config.bootReg .b, c := Config.bootReg .c,
      d := Config.bootReg .d, e := Config.bootReg .e, h := Config.bootReg .h, l := Config.bootReg .l,
      sp := Config.bootSp, pc := 0x0000, ime := false, imePending := false, halt := false, stop := false }

/-- The controller after reset (10_state.md R42), its kind chosen from the header (20_memory.md R96). -/
def Cart.reset (rom : Rom) : Cart :=
  { rom := rom, ctype := cartType rom, romBank := 1, ramBank := 0, ramEnabled := false, bankMode := false,
    rtcEnabled := false, rtcSelect := none, rtc := ⟨0, 0, 0, 0, 0⟩, extRam := [] }

/-- The PPU after reset (10_state.md R47). -/
def Ppu.reset : Ppu :=
  { vram0 := [], vram1 := [], oam := [], bgPal := [], fb := [], lcdc := 0x91, stat := 0x85, scy := 0x00, scx := 0x00,
    ly := 0x00, lyc := 0x00, dma := 0xFF, bgp := 0xFC, obp0 := 0xFF, obp1 := 0xFF, wy := 0x00, wx := 0x00, vbk := false,
    bcps := 0x00, dot := 0 }

/-- The timer after reset (10_state.md R50). -/
def Timer.reset : Timer := { div := 0xAB, tima := 0x00, tma := 0x00, tac := 0, divCounter := 0, timaCounter := 0 }

/-- The joypad after reset (10_state.md R51). -/
def Joypad.reset : Joypad := { latch := 0, dirMask := 0xF, btnMask := 0xF }

/-- The reset procedure for a cartridge under given parameters (70_reset_and_hazards.md R501). -/
def State.resetWith (p : Params) (rom : Rom) : State :=
  { par := p, cpu := Cpu.reset p, cart := Cart.reset rom, ppu := Ppu.reset, timer := Timer.reset, joy := Joypad.reset,
    mem := [], booting := p.bootRom.isSome, iflag := 0xE1, ie := 0x00, stepCycles := 0, totalCycles := 0,
    diag := if (cartTypeOf? (rom.read 0x147)).isNone then [.unsupportedCartridge (rom.read 0x147)] else [] }

/-- A cartridge with no program: 32 KiB of zero bytes, ROM-only (the convention of 95_test_vectors.md; log entry 5). -/
def blankRom : Rom := ⟨0x8000, []⟩

/-- The machine right after reset: the default parameters and the blank cartridge (70_reset_and_hazards.md R500 to R502). -/
def State.reset : State := State.resetWith {} blankRom

end Sys2Proof.Machine
end

