-- ==== Sys2Proof/Machine/Cartridge.lean ====
section
/-!
DEFINITION. The cartridge: reads of ROM and external RAM, and what a write below 0x8000 does to the controller
(20_memory.md R89 to R117).
-/

namespace Sys2Proof.Machine

/-- `CartRead0(addr)` (20_memory.md R89). -/
def cartRead0 (c : Cart) (a : Nat) : Byte := c.rom.read a

/-- `EffRomBank()` (20_memory.md R91). -/
def effRomBank (c : Cart) : Nat :=
  match c.ctype with
  | .romOnly => 1
  | .mbc1 | .mbc2 | .mbc3 | .mbc5 => c.romBank.toNat

/-- The ROM offset behind an address of the switchable window, the bank clamped to the last one (20_memory.md R91, R92). -/
def windowOffset (c : Cart) (a : Nat) : Nat :=
  let b := effRomBank c
  let b' := if b < nbanks c.rom then b else max (nbanks c.rom - 1) 1
  (a - 0x4000) + b' * 0x4000

/-- `CartReadX(addr)` (20_memory.md R91). -/
def cartReadX (c : Cart) (a : Nat) : Byte := c.rom.read (windowOffset c a)

/-- A clock register by its index (10_state.md R42). -/
def Rtc.get (t : Rtc) : RtcReg → Byte
  | .r08 => t.r08
  | .r09 => t.r09
  | .r0A => t.r0A
  | .r0B => t.r0B
  | .r0C => t.r0C

/-- Store a clock register by its index (20_memory.md R114). -/
def Rtc.put (t : Rtc) (v : Byte) : RtcReg → Rtc
  | .r08 => { t with r08 := v }
  | .r09 => { t with r09 := v }
  | .r0A => { t with r0A := v }
  | .r0B => { t with r0B := v }
  | .r0C => { t with r0C := v }

/-- A byte of `ext_ram`: `INIT_MEM` where nothing has been written (10_state.md R43, R48). -/
def extByte (c : Cart) (o : Nat) : Byte := (c.extRam.get? o).getD (Config.initMem .extRam o)

/-- The offset in `ext_ram` behind an address of the window, for the kinds that use `ram_bank` (20_memory.md R94). -/
def extOffset (c : Cart) (a : Nat) : Nat := c.ramBank.toNat * 0x2000 + (a - 0xA000)

/-- The entry of MBC2's 512 nibbles behind an address (20_memory.md R108). -/
def mbc2Offset (a : Nat) : Nat := (a - 0xA000) % 0x200

/-- `ExtRead(addr)` at a given `total_cycles` (20_memory.md R93, R94, R108, R114; log entry 6). -/
def extRead (c : Cart) (now a : Nat) : Byte :=
  if !c.ramEnabled then 0xFF
  else match c.ctype with
    | .romOnly => 0xFF
    | .mbc1 | .mbc5 => extByte c (extOffset c a)
    | .mbc2 => 0xF0 ||| (extByte c (mbc2Offset a) &&& 0x0F)
    | .mbc3 =>
      match c.rtcSelect with
      | none => extByte c (extOffset c a)
      | some r => if c.rtcEnabled then Config.rtcRead r a now else 0xFF

/-- `ExtWrite(addr, v)` (20_memory.md R93, R94, R108, R114). -/
def extWrite (c : Cart) (a : Nat) (v : Byte) : Cart :=
  if !c.ramEnabled then c
  else match c.ctype with
    | .romOnly => c
    | .mbc1 | .mbc5 => { c with extRam := c.extRam.write none (extOffset c a) v }
    | .mbc2 => { c with extRam := c.extRam.write none (mbc2Offset a) (v &&& 0x0F) }
    | .mbc3 =>
      match c.rtcSelect with
      | none => { c with extRam := c.extRam.write none (extOffset c a) v }
      | some r => if c.rtcEnabled then { c with rtc := c.rtc.put v r } else c

/-- `Diag(event)` (00_scope.md R12, 60_exceptions.md R404). -/
def State.addDiag (s : State) (e : DiagEvent) : State := { s with diag := s.diag ++ [e] }

/-- A low nibble of 0xA enables, every other disables (20_memory.md R101, R106, R110, R115). -/
def enables (v : Byte) : Bool := decide (v &&& 0x0F = 0x0A)

/-- Install a ROM bank selected by a write of v to a: bank 0 becomes 1 (20_memory.md R116), and `BankCoerced` is reported when
a 0 was coerced or the bank lies past the cartridge (R117, log entry 11). -/
def State.selectRomBank (s : State) (a : Word) (v : Byte) (coerced : Bool) (b : BitVec 9) : State :=
  let bank := if b = 0 then 1 else b
  let s' := { s with cart := { s.cart with romBank := bank } }
  if coerced ∨ b = 0 ∨ nbanks s.cart.rom ≤ bank.toNat then s'.addDiag (.bankCoerced a v bank) else s'

/-- A bank field where 0 is coerced to 1 (20_memory.md R102, R106, R111). -/
def coerceField (v : Byte) : BitVec 9 := if v = 0 then 1 else v.setWidth 9

/-- MBC1 writes (20_memory.md R101 to R104, log entry 12). -/
def State.mbc1Write (s : State) (a : Word) (v : Byte) : State :=
  let n := a.toNat
  if n < 0x2000 then { s with cart := { s.cart with ramEnabled := enables v } }
  else if n < 0x4000 then
    let lo := v &&& 0x1F
    s.selectRomBank a v (decide (lo = 0)) ((s.cart.romBank &&& 0x60) ||| coerceField lo)
  else if n < 0x6000 then
    if s.cart.bankMode then { s with cart := { s.cart with ramBank := (v &&& 0x03).setWidth 4 } }
    else s.selectRomBank a v false ((s.cart.romBank &&& (0x1F : BitVec 9)) ||| ((v &&& 0x03).setWidth 9 <<< 5))
  else
    { s with cart := { s.cart with
        bankMode := bitOf v 0, ramBank := if bitOf v 0 then s.cart.ramBank else 0 } }

/-- MBC2 writes (20_memory.md R106, R107). -/
def State.mbc2Write (s : State) (a : Word) (v : Byte) : State :=
  if a.toNat < 0x4000 then
    if a.getLsbD 8 then
      let lo := v &&& 0x0F
      s.selectRomBank a v (decide (lo = 0)) (coerceField lo)
    else { s with cart := { s.cart with ramEnabled := enables v } }
  else s

/-- The clock register a write to 0x4000-0x5FFF names on MBC3 (20_memory.md R112). -/
def rtcRegOf (v : Byte) : Option RtcReg :=
  if v = 0x08 then some .r08
  else if v = 0x09 then some .r09
  else if v = 0x0A then some .r0A
  else if v = 0x0B then some .r0B
  else if v = 0x0C then some .r0C
  else none

/-- MBC3 writes (20_memory.md R110 to R113). -/
def State.mbc3Write (s : State) (a : Word) (v : Byte) : State :=
  let n := a.toNat
  if n < 0x2000 then { s with cart := { s.cart with ramEnabled := enables v, rtcEnabled := enables v } }
  else if n < 0x4000 then
    let b := v &&& 0x7F
    s.selectRomBank a v (decide (b = 0)) (coerceField b)
  else if n < 0x6000 then
    if v.toNat ≤ 0x07 then { s with cart := { s.cart with ramBank := v.setWidth 4, rtcSelect := none } }
    else match rtcRegOf v with
      | some r => { s with cart := { s.cart with rtcSelect := some r } }
      | none => s
  else s

/-- MBC5 writes (20_memory.md R115). -/
def State.mbc5Write (s : State) (a : Word) (v : Byte) : State :=
  let n := a.toNat
  if n < 0x2000 then { s with cart := { s.cart with ramEnabled := enables v } }
  else if n < 0x3000 then s.selectRomBank a v false ((s.cart.romBank &&& (0x100 : BitVec 9)) ||| v.setWidth 9)
  else if n < 0x4000 then s.selectRomBank a v false ((s.cart.romBank &&& (0xFF : BitVec 9)) ||| ((v &&& 0x01).setWidth 9 <<< 8))
  else if n < 0x6000 then { s with cart := { s.cart with ramBank := (v &&& 0x0F).setWidth 4 } }
  else s

/-- A write to 0x0000-0x7FFF: controller state only, by the current kind (20_memory.md R90, R100). -/
def State.controllerWrite (s : State) (a : Word) (v : Byte) : State :=
  match s.cart.ctype with
  | .romOnly => s
  | .mbc1 => s.mbc1Write a v
  | .mbc2 => s.mbc2Write a v
  | .mbc3 => s.mbc3Write a v
  | .mbc5 => s.mbc5Write a v

end Sys2Proof.Machine
end

