-- ==== Sys2Proof/Machine/Ops.lean ====
section
/-!
DEFINITION. The named operations over registers and memory: register and pair access (10_state.md R30, R31), the address
router (20_memory.md R85, R86), OAM DMA (R120), the stack (00_scope.md R12), and taking an interrupt with the return
from one (60_exceptions.md R414, R415; 44_control.md R321).
-/

namespace Sys2Proof.Machine

/-! ### Registers -/

/-- `cycles <- n` (00_scope.md R12). -/
def State.withCycles (s : State) (n : Nat) : State := { s with stepCycles := n }

/-- `PC <- target` (00_scope.md R12). -/
def State.setPc (s : State) (v : Word) : State := { s with cpu := { s.cpu with pc := v } }

/-- `SP <- v`. -/
def State.setSp (s : State) (v : Word) : State := { s with cpu := { s.cpu with sp := v } }

/-- Read a register (10_state.md R30). -/
def Cpu.reg (c : Cpu) : Reg8 → Byte
  | .b => c.b
  | .c => c.c
  | .d => c.d
  | .e => c.e
  | .h => c.h
  | .l => c.l
  | .a => c.a

/-- Write a register (10_state.md R30). -/
def Cpu.setReg (c : Cpu) (v : Byte) : Reg8 → Cpu
  | .b => { c with b := v }
  | .c => { c with c := v }
  | .d => { c with d := v }
  | .e => { c with e := v }
  | .h => { c with h := v }
  | .l => { c with l := v }
  | .a => { c with a := v }

/-- Write a register of the CPU. -/
def State.setReg (s : State) (r : Reg8) (v : Byte) : State := { s with cpu := s.cpu.setReg v r }

/-- A write of F keeps bits 7-4 only (10_state.md R33). -/
def State.setF (s : State) (v : Byte) : State := { s with cpu := { s.cpu with f := maskF v } }

/-- `BC` (10_state.md R31). -/
def Cpu.bc (c : Cpu) : Word := word16 c.b c.c

/-- `DE` (10_state.md R31). -/
def Cpu.de (c : Cpu) : Word := word16 c.d c.e

/-- `HL` (10_state.md R31). -/
def Cpu.hl (c : Cpu) : Word := word16 c.h c.l

/-- `AF` (10_state.md R31). -/
def Cpu.af (c : Cpu) : Word := word16 c.a c.f

/-- `R16[p]` (00_scope.md R11). -/
def Cpu.pair (c : Cpu) : R16 → Word
  | .bc => c.bc
  | .de => c.de
  | .hl => c.hl
  | .sp => c.sp

/-- `R16[p] <- v` (00_scope.md R11, 10_state.md R31). -/
def Cpu.setPair (c : Cpu) (v : Word) : R16 → Cpu
  | .bc => { c with b := hiByte v, c := loByte v }
  | .de => { c with d := hiByte v, e := loByte v }
  | .hl => { c with h := hiByte v, l := loByte v }
  | .sp => { c with sp := v }

/-- `R16stk[p]` (00_scope.md R11). -/
def Cpu.stackPair (c : Cpu) : R16Stk → Word
  | .bc => c.bc
  | .de => c.de
  | .hl => c.hl
  | .af => c.af

/-- `R16stk[p] <- v`: a write of AF stores `v[7:0] & 0xF0` in F (00_scope.md R11). -/
def Cpu.setStackPair (c : Cpu) (v : Word) : R16Stk → Cpu
  | .bc => { c with b := hiByte v, c := loByte v }
  | .de => { c with d := hiByte v, e := loByte v }
  | .hl => { c with h := hiByte v, l := loByte v }
  | .af => { c with a := hiByte v, f := maskF (loByte v) }

/-- Write a register pair of the CPU. -/
def State.setPair (s : State) (p : R16) (v : Word) : State := { s with cpu := s.cpu.setPair v p }

/-- Write a stack register pair of the CPU. -/
def State.setStackPair (s : State) (p : R16Stk) (v : Word) : State := { s with cpu := s.cpu.setStackPair v p }

/-- `RequestIRQ(i)` (60_exceptions.md R410). -/
def State.requestIrq (s : State) (i : Nat) : State := { s with iflag := withBit s.iflag i }

/-! ### The address router -/

/-- The owner of an address (20_memory.md R85, "to exactly one owner"). -/
inductive Owner where
  | boot | rom0 | romX | vram | ext | ram | oam
  | joyp | div | tima | tma | tac | iflag
  | lcdc | stat | scy | scx | ly | lyc | dma | bgp | obp0 | obp1 | wy | wx
  | vbk | bcps | bcpd | ie
  deriving DecidableEq, Repr

/-- The owner of an address in 0xFF00-0xFF7F (20_memory.md R84, R85). -/
def ioOwner (color : Bool) (n : Nat) : Owner :=
  if n = 0xFF00 then .joyp
  else if n = 0xFF04 then .div
  else if n = 0xFF05 then .tima
  else if n = 0xFF06 then .tma
  else if n = 0xFF07 then .tac
  else if n = 0xFF0F then .iflag
  else if n = 0xFF40 then .lcdc
  else if n = 0xFF41 then .stat
  else if n = 0xFF42 then .scy
  else if n = 0xFF43 then .scx
  else if n = 0xFF44 then .ly
  else if n = 0xFF45 then .lyc
  else if n = 0xFF46 then .dma
  else if n = 0xFF47 then .bgp
  else if n = 0xFF48 then .obp0
  else if n = 0xFF49 then .obp1
  else if n = 0xFF4A then .wy
  else if n = 0xFF4B then .wx
  else if color = true ∧ n = 0xFF4F then .vbk
  else if color = true ∧ n = 0xFF68 then .bcps
  else if color = true ∧ n = 0xFF69 then .bcpd
  else .ram

/-- The router (20_memory.md R84 to R87). -/
def route (booting color : Bool) (a : Word) : Owner :=
  let n := a.toNat
  if n < 0x0100 then (if booting then .boot else .rom0)
  else if n < 0x4000 then .rom0
  else if n < 0x8000 then .romX
  else if n < 0xA000 then .vram
  else if n < 0xC000 then .ext
  else if n < 0xFE00 then .ram
  else if n < 0xFEA0 then .oam
  else if n < 0xFF00 then .ram
  else if n < 0xFF80 then ioOwner color n
  else if n < 0xFFFF then .ram
  else .ie

/-- The owner of an address in a state. -/
def State.owner (s : State) (a : Word) : Owner := route s.booting s.par.colorMode a

/-- A byte of `mem`: the stated reset byte or the draw `INIT_MEM` where nothing has been written (10_state.md R48, R49). -/
def State.ramByte (s : State) (n : Nat) : Byte := (s.mem.get? n).getD ((memDefault n).getD (Config.initMem .mem n))

/-- The bank the CPU sees at 0x8000-0x9FFF: VBK bit 0 in colour mode, else 0 (20_memory.md R95). -/
def State.vramBank (s : State) : Bool := s.par.colorMode && s.ppu.vbk

/-- A byte of `vram[0]` (10_state.md R46, R48). -/
def Ppu.vram0Byte (p : Ppu) (o : Nat) : Byte := (p.vram0.get? o).getD (Config.initMem .vram0 o)

/-- A byte of `vram[1]` (10_state.md R46, R48). -/
def Ppu.vram1Byte (p : Ppu) (o : Nat) : Byte := (p.vram1.get? o).getD (Config.initMem .vram1 o)

/-- A byte of `oam` (10_state.md R46, R48). -/
def Ppu.oamByte (p : Ppu) (o : Nat) : Byte := (p.oam.get? o).getD (Config.initMem .oam o)

/-- A byte of `bg_pal` (10_state.md R46, R48). -/
def Ppu.palByte (p : Ppu) (o : Nat) : Byte := (p.bgPal.get? o).getD (Config.initMem .bgPal o)

/-- A byte of `boot_rom` (20_memory.md R87). -/
def State.bootByte (s : State) (n : Nat) : Byte := (Mem.get? (s.par.bootRom.getD []) n).getD 0x00

/-- The joypad register (60_exceptions.md R435). -/
def Joypad.read (j : Joypad) : Byte :=
  let low := (if j.latch.getLsbD 0 then 0xF else j.dirMask) &&& (if j.latch.getLsbD 1 then 0xF else j.btnMask)
  (0xC0 : Byte) ||| (j.latch.setWidth 8 <<< 4) ||| low.setWidth 8

/-- `MemRead(addr, 1)` (20_memory.md R85): no read changes the state. -/
def State.memRead (s : State) (a : Word) : Byte :=
  match s.owner a with
  | .boot => s.bootByte a.toNat
  | .rom0 => cartRead0 s.cart a.toNat
  | .romX => cartReadX s.cart a.toNat
  | .vram => if s.vramBank then s.ppu.vram1Byte (a.toNat - 0x8000) else s.ppu.vram0Byte (a.toNat - 0x8000)
  | .ext => extRead s.cart s.totalCycles a.toNat
  | .ram => s.ramByte a.toNat
  | .oam => s.ppu.oamByte (a.toNat - 0xFE00)
  | .joyp => s.joy.read
  | .div => s.timer.div
  | .tima => s.timer.tima
  | .tma => s.timer.tma
  | .tac => 0xF8 ||| s.timer.tac.setWidth 8
  | .iflag => s.iflag
  | .lcdc => s.ppu.lcdc
  | .stat => 0x80 ||| s.ppu.stat
  | .scy => s.ppu.scy
  | .scx => s.ppu.scx
  | .ly => s.ppu.ly
  | .lyc => s.ppu.lyc
  | .dma => s.ppu.dma
  | .bgp => s.ppu.bgp
  | .obp0 => s.ppu.obp0
  | .obp1 => s.ppu.obp1
  | .wy => s.ppu.wy
  | .wx => s.ppu.wx
  | .vbk => 0xFE ||| byteOfBool s.ppu.vbk
  | .bcps => s.ppu.bcps ||| 0x40
  | .bcpd => s.ppu.palByte (s.ppu.bcps &&& 0x3F).toNat
  | .ie => s.ie

/-- Store a byte of `mem` (20_memory.md R84, R86). -/
def State.setRam (s : State) (n : Nat) (v : Byte) : State := { s with mem := s.mem.write (memDefault n) n v }

/-- Store a byte of the CPU-visible VRAM bank (20_memory.md R86, R95). -/
def State.setVram (s : State) (o : Nat) (v : Byte) : State :=
  if s.vramBank then { s with ppu := { s.ppu with vram1 := s.ppu.vram1.write none o v } }
  else { s with ppu := { s.ppu with vram0 := s.ppu.vram0.write none o v } }

/-- Store a byte of `oam` (20_memory.md R86). -/
def State.setOam (s : State) (o : Nat) (v : Byte) : State :=
  { s with ppu := { s.ppu with oam := s.ppu.oam.write none o v } }

/-- The bytes of an OAM DMA from byte i on, k of them: `MemWrite(0xFE00 + i, 1, MemRead((v << 8) + i, 1))`, in order
(20_memory.md R120). Every 0xFE00 + i below 0xFEA0 routes to `oam`. -/
def State.dmaFrom (page : Byte) : Nat → Nat → State → State
  | _, 0, s => s
  | i, k + 1, s =>
    State.dmaFrom page (i + 1) k (s.setOam i (s.memRead (word16 page 0 + BitVec.ofNat 16 i)))

/-- The DMA write: the register keeps v, then the 160 bytes are copied (20_memory.md R120). -/
def State.dmaWrite (s : State) (v : Byte) : State :=
  State.dmaFrom v 0 160 { s with ppu := { s.ppu with dma := v } }

/-- A write of BCPD: the palette byte, then the index advances if BCPS bit 7 is set (60_exceptions.md R444). -/
def State.bcpdWrite (s : State) (v : Byte) : State :=
  let bcps := s.ppu.bcps
  { s with ppu := { s.ppu with
      bgPal := s.ppu.bgPal.write none (bcps &&& 0x3F).toNat v,
      bcps := if bitOf bcps 7 then (bcps &&& 0x80) ||| ((bcps + 1) &&& 0x3F) else bcps } }

/-- `MemWrite(addr, 1, v)` (20_memory.md R86; 60_exceptions.md R431, R436, R441 to R444; 20_memory.md R122). -/
def State.memWrite (s : State) (a : Word) (v : Byte) : State :=
  match s.owner a with
  | .boot | .rom0 | .romX => s.controllerWrite a v
  | .vram => s.setVram (a.toNat - 0x8000) v
  | .ext => { s with cart := extWrite s.cart a.toNat v }
  | .ram => s.setRam a.toNat v
  | .oam => s.setOam (a.toNat - 0xFE00) v
  | .joyp => { s with joy := { s.joy with latch := (v >>> 4).setWidth 2 } }
  | .div => { s with timer := { s.timer with div := 0, divCounter := 0 } }
  | .tima => { s with timer := { s.timer with tima := v } }
  | .tma => { s with timer := { s.timer with tma := v } }
  | .tac => { s with timer := { s.timer with tac := v.setWidth 3 } }
  | .iflag => { s with iflag := (v &&& 0x1F) ||| 0xE0 }
  | .lcdc => { s with ppu := { s.ppu with lcdc := v } }
  | .stat => { s with ppu := { s.ppu with stat := 0x80 ||| (v &&& 0x78) ||| (s.ppu.stat &&& 0x07) } }
  | .scy => { s with ppu := { s.ppu with scy := v } }
  | .scx => { s with ppu := { s.ppu with scx := v } }
  | .ly => s
  | .lyc => { s with ppu := { s.ppu with lyc := v } }
  | .dma => s.dmaWrite v
  | .bgp => { s with ppu := { s.ppu with bgp := v } }
  | .obp0 => { s with ppu := { s.ppu with obp0 := v } }
  | .obp1 => { s with ppu := { s.ppu with obp1 := v } }
  | .wy => { s with ppu := { s.ppu with wy := v } }
  | .wx => { s with ppu := { s.ppu with wx := v } }
  | .vbk => { s with ppu := { s.ppu with vbk := bitOf v 0 } }
  | .bcps => { s with ppu := { s.ppu with bcps := v &&& 0xBF } }
  | .bcpd => s.bcpdWrite v
  | .ie => { s with ie := v }

/-- `MemRead(addr, 2)`: little-endian (00_scope.md R12, 20_memory.md R80). -/
def State.memRead16 (s : State) (a : Word) : Word := word16 (s.memRead (a + 1)) (s.memRead a)

/-- `MemWrite(addr, 2, v)`: the low byte at addr, then the high byte at addr + 1 (00_scope.md R12, 20_memory.md R82). -/
def State.memWrite16 (s : State) (a : Word) (v : Word) : State :=
  (s.memWrite a (loByte v)).memWrite (a + 1) (hiByte v)

/-! ### The stack -/

/-- `Push16(v)`: the high byte at SP - 1, then the low byte at SP - 2 (00_scope.md R12, 20_memory.md R82). -/
def State.push16 (s : State) (v : Word) : State :=
  let s := s.setSp (s.cpu.sp - 1)
  let s := s.memWrite s.cpu.sp (hiByte v)
  let s := s.setSp (s.cpu.sp - 1)
  s.memWrite s.cpu.sp (loByte v)

/-- The value `Pop16()` returns: the low byte at SP, the high byte at SP + 1 (00_scope.md R12). -/
def State.stackTop (s : State) : Word := s.memRead16 s.cpu.sp

/-- What `Pop16()` leaves: SP is 2 higher (00_scope.md R12). -/
def State.dropTop (s : State) : State := s.setSp (s.cpu.sp + 2)

/-! ### Interrupts -/

/-- `IF & IE & 0x1F` (60_exceptions.md R411). -/
def State.pending (s : State) : Byte := s.iflag &&& s.ie &&& 0x1F

/-- The lowest-numbered set bit among the five sources (60_exceptions.md R413); 4 when none of bits 0-3 is set. -/
def lowestBit (pend : Byte) : Nat :=
  if bitOf pend 0 then 0
  else if bitOf pend 1 then 1
  else if bitOf pend 2 then 2
  else if bitOf pend 3 then 3
  else 4

/-- The vector of interrupt i, `0x0040 + 8 * i` (60_exceptions.md R414, R416). -/
def vector (i : Nat) : Word := BitVec.ofNat 16 (0x40 + 8 * i)

/-- Taking interrupt i: IME and `ime_pending` cleared, its request bit cleared, `halt` cleared, PC pushed, PC at the
vector chosen before the push, in this order (60_exceptions.md R414, R415). -/
def State.takeInterrupt (s : State) (i : Nat) : State :=
  let s := { s with cpu := { s.cpu with ime := false, imePending := false, halt := false }, iflag := withoutBit s.iflag i }
  (s.push16 s.cpu.pc).setPc (vector i)

/-- Returning from an interrupt: PC popped, IME set at once, `ime_pending` cleared (44_control.md R321). -/
def State.returnFromInterrupt (s : State) : State :=
  let s := s.dropTop.setPc s.stackTop
  { s with cpu := { s.cpu with ime := true, imePending := false } }

/-- Whether the CPU is stopped by STOP in suspend mode (60_exceptions.md R401, R418). -/
def State.stopped (s : State) : Bool := s.cpu.stop && decide (s.par.stopMode = .suspend)

/-- `HandleInterrupts()`: the state it leaves and the cycles it consumed (60_exceptions.md R414, R417, R418). -/
def State.handleInterrupts (s : State) : State × Nat :=
  if s.stopped then (s, 0)
  else if s.cpu.ime ∧ s.pending ≠ 0 then (s.takeInterrupt (lowestBit s.pending), s.par.irqServiceCycles)
  else if s.cpu.ime = false ∧ s.cpu.halt ∧ s.pending ≠ 0 then ({ s with cpu := { s.cpu with halt := false } }, 0)
  else (s, 0)

end Sys2Proof.Machine
end

