-- ==== Sys2Proof/Machine/Flags.lean ====
section
/-!
DEFINITION. The flag engine: reading and writing Z, N, H, C (10_state.md R33, 00_scope.md R13) and every carry and half-carry test
of the spec (00_scope.md R14, 42_alu16.md R265, R268), on exact natural numbers.
-/

namespace Sys2Proof.Machine

/-- `F.Z`. -/
def Cpu.flagZ (c : Cpu) : Bool := bitOf c.f 7

/-- `F.N`. -/
def Cpu.flagN (c : Cpu) : Bool := bitOf c.f 6

/-- `F.H`. -/
def Cpu.flagH (c : Cpu) : Bool := bitOf c.f 5

/-- `F.C`. -/
def Cpu.flagC (c : Cpu) : Bool := bitOf c.f 4

/-- Write the four flags; bits 3-0 of F become 0 (00_scope.md R13). -/
def State.setFlags (s : State) (z n h c : Bool) : State := { s with cpu := { s.cpu with f := packF z n h c } }

/-- Carry out of bit 3 of `a + b + c` (00_scope.md R14). -/
def halfCarryAdd (a b : Byte) (c : Bool) : Bool := decide (a.toNat % 16 + b.toNat % 16 + c.toNat > 0xF)

/-- Carry out of bit 7 of `a + b + c` (00_scope.md R14). -/
def carryAdd (a b : Byte) (c : Bool) : Bool := decide (a.toNat + b.toNat + c.toNat > 0xFF)

/-- Half-borrow of `a - b - c` (00_scope.md R14, 90_conflicts.md C11). -/
def halfBorrow (a b : Byte) (c : Bool) : Bool := decide (a.toNat % 16 < b.toNat % 16 + c.toNat)

/-- Borrow of `a - b - c` (00_scope.md R14). -/
def borrow (a b : Byte) (c : Bool) : Bool := decide (a.toNat < b.toNat + c.toNat)

/-- Carry out of bit 11 of `a + b` (42_alu16.md R265, 90_conflicts.md C2). -/
def halfCarryAdd16 (a b : Word) : Bool := decide (a.toNat % 0x1000 + b.toNat % 0x1000 > 0x0FFF)

/-- Carry out of bit 15 of `a + b` (42_alu16.md R265). -/
def carryAdd16 (a b : Word) : Bool := decide (a.toNat + b.toNat > 0xFFFF)

end Sys2Proof.Machine
end

