-- ==== Sys2Proof/Machine/Operands.lean ====
section
/-!
DEFINITION. Operand forms: the r8 operand that is a register or the memory byte at HL (00_scope.md R11, 30_encoding.md R152),
relative targets (30_encoding.md R158), the high page (R158) and the conditions (44_control.md R310).
-/

namespace Sys2Proof.Machine

/-- `R8[x]` (00_scope.md R11). -/
def State.readR8 (s : State) : R8 → Byte
  | .b => s.cpu.b
  | .c => s.cpu.c
  | .d => s.cpu.d
  | .e => s.cpu.e
  | .h => s.cpu.h
  | .l => s.cpu.l
  | .indHl => s.memRead s.cpu.hl
  | .a => s.cpu.a

/-- `R8[x] <- v` (00_scope.md R11). -/
def State.writeR8 (s : State) (x : R8) (v : Byte) : State :=
  match x with
  | .b => s.setReg .b v
  | .c => s.setReg .c v
  | .d => s.setReg .d v
  | .e => s.setReg .e v
  | .h => s.setReg .h v
  | .l => s.setReg .l v
  | .indHl => s.memWrite s.cpu.hl v
  | .a => s.setReg .a v

/-- The cycles of a form: one count on a register, another on (HL). -/
def costOf (x : R8) (onReg onHl : Nat) : Nat :=
  match x with
  | .indHl => onHl
  | .b | .c | .d | .e | .h | .l | .a => onReg

/-- The address `0xFF00 + n` of the high-page forms (30_encoding.md R158). -/
def highPage (n : Byte) : Word := 0xFF00 + zext16 n

/-- `Cond(cc)` (44_control.md R310). -/
def State.cond (s : State) : Cond → Bool
  | .nz => !s.cpu.flagZ
  | .z => s.cpu.flagZ
  | .nc => !s.cpu.flagC
  | .c => s.cpu.flagC

end Sys2Proof.Machine
end

