-- ==== Sys2Proof/Machine/Alu16.lean ====
section
/-!
DEFINITION. 16-bit arithmetic (42_alu16.md R265 to R268): the shared operations, then one definition per row of the table.
-/

namespace Sys2Proof.Machine

/-- `HL <- HL + R16[p]`, H out of bit 11, C out of bit 15, Z kept (R265). -/
def State.addHl (s : State) (p : R16) : State :=
  let a := s.cpu.hl
  let b := s.cpu.pair p
  ((s.setPair .hl (a + b)).setFlags s.cpu.flagZ false (halfCarryAdd16 a b) (carryAdd16 a b)).withCycles 8

/-- `R16[p] <- R16[p] + 1`, no flag (R266). -/
def State.incPair (s : State) (p : R16) : State := (s.setPair p (s.cpu.pair p + 1)).withCycles 8

/-- `R16[p] <- R16[p] - 1`, no flag (R267). -/
def State.decPair (s : State) (p : R16) : State := (s.setPair p (s.cpu.pair p - 1)).withCycles 8

/-- `SP <- SP + sext_16(e)`, H and C from the unsigned addition of e to the low byte of SP (R268). -/
def State.addSp (s : State) (e : Byte) : State :=
  let lo := loByte s.cpu.sp
  ((s.setSp (s.cpu.sp + sext16 e)).setFlags false false (halfCarryAdd lo e false) (carryAdd lo e false)).withCycles 16

/-- `INC BC` (R266). -/
def execIncBc (s : State) : Host.Outcome State Fault Refusal := .next (s.incPair .bc)

/-- `ADD HL,BC` (R265). -/
def execAddHlBc (s : State) : Host.Outcome State Fault Refusal := .next (s.addHl .bc)

/-- `DEC BC` (R267). -/
def execDecBc (s : State) : Host.Outcome State Fault Refusal := .next (s.decPair .bc)

/-- `INC DE` (R266). -/
def execIncDe (s : State) : Host.Outcome State Fault Refusal := .next (s.incPair .de)

/-- `ADD HL,DE` (R265). -/
def execAddHlDe (s : State) : Host.Outcome State Fault Refusal := .next (s.addHl .de)

/-- `DEC DE` (R267). -/
def execDecDe (s : State) : Host.Outcome State Fault Refusal := .next (s.decPair .de)

/-- `INC HL` (R266). -/
def execIncHl (s : State) : Host.Outcome State Fault Refusal := .next (s.incPair .hl)

/-- `ADD HL,HL` (R265). -/
def execAddHlHl (s : State) : Host.Outcome State Fault Refusal := .next (s.addHl .hl)

/-- `DEC HL` (R267). -/
def execDecHl (s : State) : Host.Outcome State Fault Refusal := .next (s.decPair .hl)

/-- `INC SP` (R266). -/
def execIncSp (s : State) : Host.Outcome State Fault Refusal := .next (s.incPair .sp)

/-- `ADD HL,SP` (R265). -/
def execAddHlSp (s : State) : Host.Outcome State Fault Refusal := .next (s.addHl .sp)

/-- `DEC SP` (R267). -/
def execDecSp (s : State) : Host.Outcome State Fault Refusal := .next (s.decPair .sp)

/-- `ADD SP,e8` (R268). -/
def execAddSpE8 (e : Byte) (s : State) : Host.Outcome State Fault Refusal := .next (s.addSp e)

end Sys2Proof.Machine
end

