-- ==== Sys2Proof/Machine/Alu8.lean ====
section
/-!
DEFINITION. 8-bit arithmetic and logic (41_alu8.md R239 to R252): the shared operations, then one definition per row of the table.
-/

namespace Sys2Proof.Machine

/-- Write A and the four flags, Z from the stored result (R252). -/
def State.setAcc (s : State) (r : Byte) (n h c : Bool) : State := (s.setReg .a r).setFlags (decide (r = 0)) n h c

/-- The ALU operation o on A and b (R240 to R247). -/
def State.alu (s : State) (o : AluOp) (b : Byte) : State :=
  let a := s.cpu.a
  let c := s.cpu.flagC
  match o with
  | .add => s.setAcc (a + b) false (halfCarryAdd a b false) (carryAdd a b false)
  | .adc => s.setAcc (a + b + byteOfBool c) false (halfCarryAdd a b c) (carryAdd a b c)
  | .sub => s.setAcc (a - b) true (halfBorrow a b false) (borrow a b false)
  | .sbc => s.setAcc (a - b - byteOfBool c) true (halfBorrow a b c) (borrow a b c)
  | .and => s.setAcc (a &&& b) false true false
  | .xor => s.setAcc (a ^^^ b) false false false
  | .or => s.setAcc (a ||| b) false false false
  | .cp => s.setFlags (decide (a - b = 0)) true (halfBorrow a b false) (borrow a b false)

/-- The ALU forms on a register or on (HL) (R239). -/
def State.aluR8 (s : State) (o : AluOp) (x : R8) : State := (s.alu o (s.readR8 x)).withCycles (costOf x 4 8)

/-- The ALU forms with an immediate (R239). -/
def State.aluImm (s : State) (o : AluOp) (n : Byte) : State := (s.alu o n).withCycles 8

/-- INC on r8 or (HL): C is kept (R248, R249). -/
def State.incR8 (s : State) (x : R8) : State :=
  let v := s.readR8 x
  let w := v + 1
  ((s.writeR8 x w).setFlags (decide (w = 0)) false (decide (v &&& 0xF = 0xF)) s.cpu.flagC).withCycles (costOf x 4 12)

/-- DEC on r8 or (HL): C is kept (R250, R251). -/
def State.decR8 (s : State) (x : R8) : State :=
  let v := s.readR8 x
  let w := v - 1
  ((s.writeR8 x w).setFlags (decide (w = 0)) true (decide (v &&& 0xF = 0x0)) s.cpu.flagC).withCycles (costOf x 4 12)

/-- `INC B` (R248). -/
def execIncB (s : State) : Host.Outcome State Fault Refusal := .next (s.incR8 .b)

/-- `DEC B` (R250). -/
def execDecB (s : State) : Host.Outcome State Fault Refusal := .next (s.decR8 .b)

/-- `INC C` (R248). -/
def execIncC (s : State) : Host.Outcome State Fault Refusal := .next (s.incR8 .c)

/-- `DEC C` (R250). -/
def execDecC (s : State) : Host.Outcome State Fault Refusal := .next (s.decR8 .c)

/-- `INC D` (R248). -/
def execIncD (s : State) : Host.Outcome State Fault Refusal := .next (s.incR8 .d)

/-- `DEC D` (R250). -/
def execDecD (s : State) : Host.Outcome State Fault Refusal := .next (s.decR8 .d)

/-- `INC E` (R248). -/
def execIncE (s : State) : Host.Outcome State Fault Refusal := .next (s.incR8 .e)

/-- `DEC E` (R250). -/
def execDecE (s : State) : Host.Outcome State Fault Refusal := .next (s.decR8 .e)

/-- `INC H` (R248). -/
def execIncH (s : State) : Host.Outcome State Fault Refusal := .next (s.incR8 .h)

/-- `DEC H` (R250). -/
def execDecH (s : State) : Host.Outcome State Fault Refusal := .next (s.decR8 .h)

/-- `INC L` (R248). -/
def execIncL (s : State) : Host.Outcome State Fault Refusal := .next (s.incR8 .l)

/-- `DEC L` (R250). -/
def execDecL (s : State) : Host.Outcome State Fault Refusal := .next (s.decR8 .l)

/-- `INC (HL)` (R249). -/
def execIncIndHl (s : State) : Host.Outcome State Fault Refusal := .next (s.incR8 .indHl)

/-- `DEC (HL)` (R251). -/
def execDecIndHl (s : State) : Host.Outcome State Fault Refusal := .next (s.decR8 .indHl)

/-- `INC A` (R248). -/
def execIncA (s : State) : Host.Outcome State Fault Refusal := .next (s.incR8 .a)

/-- `DEC A` (R250). -/
def execDecA (s : State) : Host.Outcome State Fault Refusal := .next (s.decR8 .a)

/-- `ADD A,B` (R240). -/
def execAddAB (s : State) : Host.Outcome State Fault Refusal := .next (s.aluR8 .add .b)

/-- `ADD A,C` (R240). -/
def execAddAC (s : State) : Host.Outcome State Fault Refusal := .next (s.aluR8 .add .c)

/-- `ADD A,D` (R240). -/
def execAddAD (s : State) : Host.Outcome State Fault Refusal := .next (s.aluR8 .add .d)

/-- `ADD A,E` (R240). -/
def execAddAE (s : State) : Host.Outcome State Fault Refusal := .next (s.aluR8 .add .e)

/-- `ADD A,H` (R240). -/
def execAddAH (s : State) : Host.Outcome State Fault Refusal := .next (s.aluR8 .add .h)

/-- `ADD A,L` (R240). -/
def execAddAL (s : State) : Host.Outcome State Fault Refusal := .next (s.aluR8 .add .l)

/-- `ADD A,(HL)` (R240). -/
def execAddAIndHl (s : State) : Host.Outcome State Fault Refusal := .next (s.aluR8 .add .indHl)

/-- `ADD A,A` (R240). -/
def execAddAA (s : State) : Host.Outcome State Fault Refusal := .next (s.aluR8 .add .a)

/-- `ADC A,B` (R241). -/
def execAdcAB (s : State) : Host.Outcome State Fault Refusal := .next (s.aluR8 .adc .b)

/-- `ADC A,C` (R241). -/
def execAdcAC (s : State) : Host.Outcome State Fault Refusal := .next (s.aluR8 .adc .c)

/-- `ADC A,D` (R241). -/
def execAdcAD (s : State) : Host.Outcome State Fault Refusal := .next (s.aluR8 .adc .d)

/-- `ADC A,E` (R241). -/
def execAdcAE (s : State) : Host.Outcome State Fault Refusal := .next (s.aluR8 .adc .e)

/-- `ADC A,H` (R241). -/
def execAdcAH (s : State) : Host.Outcome State Fault Refusal := .next (s.aluR8 .adc .h)

/-- `ADC A,L` (R241). -/
def execAdcAL (s : State) : Host.Outcome State Fault Refusal := .next (s.aluR8 .adc .l)

/-- `ADC A,(HL)` (R241). -/
def execAdcAIndHl (s : State) : Host.Outcome State Fault Refusal := .next (s.aluR8 .adc .indHl)

/-- `ADC A,A` (R241). -/
def execAdcAA (s : State) : Host.Outcome State Fault Refusal := .next (s.aluR8 .adc .a)

/-- `SUB A,B` (R242). -/
def execSubAB (s : State) : Host.Outcome State Fault Refusal := .next (s.aluR8 .sub .b)

/-- `SUB A,C` (R242). -/
def execSubAC (s : State) : Host.Outcome State Fault Refusal := .next (s.aluR8 .sub .c)

/-- `SUB A,D` (R242). -/
def execSubAD (s : State) : Host.Outcome State Fault Refusal := .next (s.aluR8 .sub .d)

/-- `SUB A,E` (R242). -/
def execSubAE (s : State) : Host.Outcome State Fault Refusal := .next (s.aluR8 .sub .e)

/-- `SUB A,H` (R242). -/
def execSubAH (s : State) : Host.Outcome State Fault Refusal := .next (s.aluR8 .sub .h)

/-- `SUB A,L` (R242). -/
def execSubAL (s : State) : Host.Outcome State Fault Refusal := .next (s.aluR8 .sub .l)

/-- `SUB A,(HL)` (R242). -/
def execSubAIndHl (s : State) : Host.Outcome State Fault Refusal := .next (s.aluR8 .sub .indHl)

/-- `SUB A,A` (R242). -/
def execSubAA (s : State) : Host.Outcome State Fault Refusal := .next (s.aluR8 .sub .a)

/-- `SBC A,B` (R243). -/
def execSbcAB (s : State) : Host.Outcome State Fault Refusal := .next (s.aluR8 .sbc .b)

/-- `SBC A,C` (R243). -/
def execSbcAC (s : State) : Host.Outcome State Fault Refusal := .next (s.aluR8 .sbc .c)

/-- `SBC A,D` (R243). -/
def execSbcAD (s : State) : Host.Outcome State Fault Refusal := .next (s.aluR8 .sbc .d)

/-- `SBC A,E` (R243). -/
def execSbcAE (s : State) : Host.Outcome State Fault Refusal := .next (s.aluR8 .sbc .e)

/-- `SBC A,H` (R243). -/
def execSbcAH (s : State) : Host.Outcome State Fault Refusal := .next (s.aluR8 .sbc .h)

/-- `SBC A,L` (R243). -/
def execSbcAL (s : State) : Host.Outcome State Fault Refusal := .next (s.aluR8 .sbc .l)

/-- `SBC A,(HL)` (R243). -/
def execSbcAIndHl (s : State) : Host.Outcome State Fault Refusal := .next (s.aluR8 .sbc .indHl)

/-- `SBC A,A` (R243). -/
def execSbcAA (s : State) : Host.Outcome State Fault Refusal := .next (s.aluR8 .sbc .a)

/-- `AND A,B` (R244). -/
def execAndAB (s : State) : Host.Outcome State Fault Refusal := .next (s.aluR8 .and .b)

/-- `AND A,C` (R244). -/
def execAndAC (s : State) : Host.Outcome State Fault Refusal := .next (s.aluR8 .and .c)

/-- `AND A,D` (R244). -/
def execAndAD (s : State) : Host.Outcome State Fault Refusal := .next (s.aluR8 .and .d)

/-- `AND A,E` (R244). -/
def execAndAE (s : State) : Host.Outcome State Fault Refusal := .next (s.aluR8 .and .e)

/-- `AND A,H` (R244). -/
def execAndAH (s : State) : Host.Outcome State Fault Refusal := .next (s.aluR8 .and .h)

/-- `AND A,L` (R244). -/
def execAndAL (s : State) : Host.Outcome State Fault Refusal := .next (s.aluR8 .and .l)

/-- `AND A,(HL)` (R244). -/
def execAndAIndHl (s : State) : Host.Outcome State Fault Refusal := .next (s.aluR8 .and .indHl)

/-- `AND A,A` (R244). -/
def execAndAA (s : State) : Host.Outcome State Fault Refusal := .next (s.aluR8 .and .a)

/-- `XOR A,B` (R245). -/
def execXorAB (s : State) : Host.Outcome State Fault Refusal := .next (s.aluR8 .xor .b)

/-- `XOR A,C` (R245). -/
def execXorAC (s : State) : Host.Outcome State Fault Refusal := .next (s.aluR8 .xor .c)

/-- `XOR A,D` (R245). -/
def execXorAD (s : State) : Host.Outcome State Fault Refusal := .next (s.aluR8 .xor .d)

/-- `XOR A,E` (R245). -/
def execXorAE (s : State) : Host.Outcome State Fault Refusal := .next (s.aluR8 .xor .e)

/-- `XOR A,H` (R245). -/
def execXorAH (s : State) : Host.Outcome State Fault Refusal := .next (s.aluR8 .xor .h)

/-- `XOR A,L` (R245). -/
def execXorAL (s : State) : Host.Outcome State Fault Refusal := .next (s.aluR8 .xor .l)

/-- `XOR A,(HL)` (R245). -/
def execXorAIndHl (s : State) : Host.Outcome State Fault Refusal := .next (s.aluR8 .xor .indHl)

/-- `XOR A,A` (R245). -/
def execXorAA (s : State) : Host.Outcome State Fault Refusal := .next (s.aluR8 .xor .a)

/-- `OR A,B` (R246). -/
def execOrAB (s : State) : Host.Outcome State Fault Refusal := .next (s.aluR8 .or .b)

/-- `OR A,C` (R246). -/
def execOrAC (s : State) : Host.Outcome State Fault Refusal := .next (s.aluR8 .or .c)

/-- `OR A,D` (R246). -/
def execOrAD (s : State) : Host.Outcome State Fault Refusal := .next (s.aluR8 .or .d)

/-- `OR A,E` (R246). -/
def execOrAE (s : State) : Host.Outcome State Fault Refusal := .next (s.aluR8 .or .e)

/-- `OR A,H` (R246). -/
def execOrAH (s : State) : Host.Outcome State Fault Refusal := .next (s.aluR8 .or .h)

/-- `OR A,L` (R246). -/
def execOrAL (s : State) : Host.Outcome State Fault Refusal := .next (s.aluR8 .or .l)

/-- `OR A,(HL)` (R246). -/
def execOrAIndHl (s : State) : Host.Outcome State Fault Refusal := .next (s.aluR8 .or .indHl)

/-- `OR A,A` (R246). -/
def execOrAA (s : State) : Host.Outcome State Fault Refusal := .next (s.aluR8 .or .a)

/-- `CP A,B` (R247). -/
def execCpAB (s : State) : Host.Outcome State Fault Refusal := .next (s.aluR8 .cp .b)

/-- `CP A,C` (R247). -/
def execCpAC (s : State) : Host.Outcome State Fault Refusal := .next (s.aluR8 .cp .c)

/-- `CP A,D` (R247). -/
def execCpAD (s : State) : Host.Outcome State Fault Refusal := .next (s.aluR8 .cp .d)

/-- `CP A,E` (R247). -/
def execCpAE (s : State) : Host.Outcome State Fault Refusal := .next (s.aluR8 .cp .e)

/-- `CP A,H` (R247). -/
def execCpAH (s : State) : Host.Outcome State Fault Refusal := .next (s.aluR8 .cp .h)

/-- `CP A,L` (R247). -/
def execCpAL (s : State) : Host.Outcome State Fault Refusal := .next (s.aluR8 .cp .l)

/-- `CP A,(HL)` (R247). -/
def execCpAIndHl (s : State) : Host.Outcome State Fault Refusal := .next (s.aluR8 .cp .indHl)

/-- `CP A,A` (R247). -/
def execCpAA (s : State) : Host.Outcome State Fault Refusal := .next (s.aluR8 .cp .a)

/-- `ADD A,d8` (R240). -/
def execAddAD8 (n : Byte) (s : State) : Host.Outcome State Fault Refusal := .next (s.aluImm .add n)

/-- `ADC A,d8` (R241). -/
def execAdcAD8 (n : Byte) (s : State) : Host.Outcome State Fault Refusal := .next (s.aluImm .adc n)

/-- `SUB A,d8` (R242). -/
def execSubAD8 (n : Byte) (s : State) : Host.Outcome State Fault Refusal := .next (s.aluImm .sub n)

/-- `SBC A,d8` (R243). -/
def execSbcAD8 (n : Byte) (s : State) : Host.Outcome State Fault Refusal := .next (s.aluImm .sbc n)

/-- `AND A,d8` (R244). -/
def execAndAD8 (n : Byte) (s : State) : Host.Outcome State Fault Refusal := .next (s.aluImm .and n)

/-- `XOR A,d8` (R245). -/
def execXorAD8 (n : Byte) (s : State) : Host.Outcome State Fault Refusal := .next (s.aluImm .xor n)

/-- `OR A,d8` (R246). -/
def execOrAD8 (n : Byte) (s : State) : Host.Outcome State Fault Refusal := .next (s.aluImm .or n)

/-- `CP A,d8` (R247). -/
def execCpAD8 (n : Byte) (s : State) : Host.Outcome State Fault Refusal := .next (s.aluImm .cp n)

end Sys2Proof.Machine
end

