-- ==== Sys2Proof/Machine/Rotates.lean ====
section
/-!
DEFINITION. Rotates and shifts: what each code computes (43_rotate_shift_bit.md R280 to R291), and the four accumulator rotates (R280 to R283).
-/

namespace Sys2Proof.Machine

/-- The result and the carry out of a rotate or shift of v with carry in c (R284 to R291). -/
def rotResult (o : RotOp) (v : Byte) (c : Bool) : Byte × Bool :=
  match o with
  | .rlc => ((v <<< 1) ||| byteOfBool (bitOf v 7), bitOf v 7)
  | .rrc => ((v >>> 1) ||| (byteOfBool (bitOf v 0) <<< 7), bitOf v 0)
  | .rl => ((v <<< 1) ||| byteOfBool c, bitOf v 7)
  | .rr => ((v >>> 1) ||| (byteOfBool c <<< 7), bitOf v 0)
  | .sla => (v <<< 1, bitOf v 7)
  | .sra => ((v >>> 1) ||| (v &&& 0x80), bitOf v 0)
  | .swap => ((v <<< 4) ||| (v >>> 4), false)
  | .srl => (v >>> 1, bitOf v 0)

/-- The accumulator rotates: Z is always 0 (R280 to R283). -/
def State.rotA (s : State) (o : RotOp) : State :=
  let r := rotResult o s.cpu.a s.cpu.flagC
  ((s.setReg .a r.1).setFlags false false false r.2).withCycles 4

/-- `RLCA` (R280). -/
def execRlca (s : State) : Host.Outcome State Fault Refusal := .next (s.rotA .rlc)

/-- `RRCA` (R281). -/
def execRrca (s : State) : Host.Outcome State Fault Refusal := .next (s.rotA .rrc)

/-- `RLA` (R282). -/
def execRla (s : State) : Host.Outcome State Fault Refusal := .next (s.rotA .rl)

/-- `RRA` (R283). -/
def execRra (s : State) : Host.Outcome State Fault Refusal := .next (s.rotA .rr)

end Sys2Proof.Machine
end

