-- ==== Sys2Proof/Machine/CbOps.lean ====
section
/-!
DEFINITION. The shared operations of the CB instructions on an r8 operand (43_rotate_shift_bit.md R279, R284 to R294) and the CB byte read as one instruction (45_misc.md R331).
-/

namespace Sys2Proof.Machine

/-- A CB rotate or shift (R279, R284 to R291). -/
def State.rotR8 (s : State) (o : RotOp) (x : R8) : State :=
  let r := rotResult o (s.readR8 x) s.cpu.flagC
  ((s.writeR8 x r.1).setFlags (decide (r.1 = 0)) false false r.2).withCycles (costOf x 8 16)

/-- BIT b: Z from the bit, C kept, the operand not written (R292). -/
def State.bitR8 (s : State) (b : Fin 8) (x : R8) : State :=
  (s.setFlags (!bitOf (s.readR8 x) b) false true s.cpu.flagC).withCycles (costOf x 8 12)

/-- RES b (R293). -/
def State.resR8 (s : State) (b : Fin 8) (x : R8) : State :=
  (s.writeR8 x (withoutBit (s.readR8 x) b)).withCycles (costOf x 8 16)

/-- SET b (R294). -/
def State.setR8 (s : State) (b : Fin 8) (x : R8) : State :=
  (s.writeR8 x (withBit (s.readR8 x) b)).withCycles (costOf x 8 16)

/-- "execute the CB instruction cb", by the field arithmetic of 30_encoding.md R161 (45_misc.md R331). -/
def State.cbByte (s : State) (cb : Byte) : State :=
  match fieldX cb with
  | 0 => s.rotR8 (RotOp.ofCode (fieldY cb)) (R8.ofCode (fieldZ cb))
  | 1 => s.bitR8 (fieldY cb) (R8.ofCode (fieldZ cb))
  | 2 => s.resR8 (fieldY cb) (R8.ofCode (fieldZ cb))
  | 3 => s.setR8 (fieldY cb) (R8.ofCode (fieldZ cb))

end Sys2Proof.Machine
end

