-- ==== Sys2Proof/Machine/CbBit.lean ====
section
/-!
DEFINITION. BIT b,r, one definition per row (43_rotate_shift_bit.md R292).
-/

namespace Sys2Proof.Machine

/-- `BIT 0,B` (R292). -/
def execBit0B (s : State) : Host.Outcome State Fault Refusal := .next (s.bitR8 0 .b)

/-- `BIT 0,C` (R292). -/
def execBit0C (s : State) : Host.Outcome State Fault Refusal := .next (s.bitR8 0 .c)

/-- `BIT 0,D` (R292). -/
def execBit0D (s : State) : Host.Outcome State Fault Refusal := .next (s.bitR8 0 .d)

/-- `BIT 0,E` (R292). -/
def execBit0E (s : State) : Host.Outcome State Fault Refusal := .next (s.bitR8 0 .e)

/-- `BIT 0,H` (R292). -/
def execBit0H (s : State) : Host.Outcome State Fault Refusal := .next (s.bitR8 0 .h)

/-- `BIT 0,L` (R292). -/
def execBit0L (s : State) : Host.Outcome State Fault Refusal := .next (s.bitR8 0 .l)

/-- `BIT 0,(HL)` (R292). -/
def execBit0IndHl (s : State) : Host.Outcome State Fault Refusal := .next (s.bitR8 0 .indHl)

/-- `BIT 0,A` (R292). -/
def execBit0A (s : State) : Host.Outcome State Fault Refusal := .next (s.bitR8 0 .a)

/-- `BIT 1,B` (R292). -/
def execBit1B (s : State) : Host.Outcome State Fault Refusal := .next (s.bitR8 1 .b)

/-- `BIT 1,C` (R292). -/
def execBit1C (s : State) : Host.Outcome State Fault Refusal := .next (s.bitR8 1 .c)

/-- `BIT 1,D` (R292). -/
def execBit1D (s : State) : Host.Outcome State Fault Refusal := .next (s.bitR8 1 .d)

/-- `BIT 1,E` (R292). -/
def execBit1E (s : State) : Host.Outcome State Fault Refusal := .next (s.bitR8 1 .e)

/-- `BIT 1,H` (R292). -/
def execBit1H (s : State) : Host.Outcome State Fault Refusal := .next (s.bitR8 1 .h)

/-- `BIT 1,L` (R292). -/
def execBit1L (s : State) : Host.Outcome State Fault Refusal := .next (s.bitR8 1 .l)

/-- `BIT 1,(HL)` (R292). -/
def execBit1IndHl (s : State) : Host.Outcome State Fault Refusal := .next (s.bitR8 1 .indHl)

/-- `BIT 1,A` (R292). -/
def execBit1A (s : State) : Host.Outcome State Fault Refusal := .next (s.bitR8 1 .a)

/-- `BIT 2,B` (R292). -/
def execBit2B (s : State) : Host.Outcome State Fault Refusal := .next (s.bitR8 2 .b)

/-- `BIT 2,C` (R292). -/
def execBit2C (s : State) : Host.Outcome State Fault Refusal := .next (s.bitR8 2 .c)

/-- `BIT 2,D` (R292). -/
def execBit2D (s : State) : Host.Outcome State Fault Refusal := .next (s.bitR8 2 .d)

/-- `BIT 2,E` (R292). -/
def execBit2E (s : State) : Host.Outcome State Fault Refusal := .next (s.bitR8 2 .e)

/-- `BIT 2,H` (R292). -/
def execBit2H (s : State) : Host.Outcome State Fault Refusal := .next (s.bitR8 2 .h)

/-- `BIT 2,L` (R292). -/
def execBit2L (s : State) : Host.Outcome State Fault Refusal := .next (s.bitR8 2 .l)

/-- `BIT 2,(HL)` (R292). -/
def execBit2IndHl (s : State) : Host.Outcome State Fault Refusal := .next (s.bitR8 2 .indHl)

/-- `BIT 2,A` (R292). -/
def execBit2A (s : State) : Host.Outcome State Fault Refusal := .next (s.bitR8 2 .a)

/-- `BIT 3,B` (R292). -/
def execBit3B (s : State) : Host.Outcome State Fault Refusal := .next (s.bitR8 3 .b)

/-- `BIT 3,C` (R292). -/
def execBit3C (s : State) : Host.Outcome State Fault Refusal := .next (s.bitR8 3 .c)

/-- `BIT 3,D` (R292). -/
def execBit3D (s : State) : Host.Outcome State Fault Refusal := .next (s.bitR8 3 .d)

/-- `BIT 3,E` (R292). -/
def execBit3E (s : State) : Host.Outcome State Fault Refusal := .next (s.bitR8 3 .e)

/-- `BIT 3,H` (R292). -/
def execBit3H (s : State) : Host.Outcome State Fault Refusal := .next (s.bitR8 3 .h)

/-- `BIT 3,L` (R292). -/
def execBit3L (s : State) : Host.Outcome State Fault Refusal := .next (s.bitR8 3 .l)

/-- `BIT 3,(HL)` (R292). -/
def execBit3IndHl (s : State) : Host.Outcome State Fault Refusal := .next (s.bitR8 3 .indHl)

/-- `BIT 3,A` (R292). -/
def execBit3A (s : State) : Host.Outcome State Fault Refusal := .next (s.bitR8 3 .a)

/-- `BIT 4,B` (R292). -/
def execBit4B (s : State) : Host.Outcome State Fault Refusal := .next (s.bitR8 4 .b)

/-- `BIT 4,C` (R292). -/
def execBit4C (s : State) : Host.Outcome State Fault Refusal := .next (s.bitR8 4 .c)

/-- `BIT 4,D` (R292). -/
def execBit4D (s : State) : Host.Outcome State Fault Refusal := .next (s.bitR8 4 .d)

/-- `BIT 4,E` (R292). -/
def execBit4E (s : State) : Host.Outcome State Fault Refusal := .next (s.bitR8 4 .e)

/-- `BIT 4,H` (R292). -/
def execBit4H (s : State) : Host.Outcome State Fault Refusal := .next (s.bitR8 4 .h)

/-- `BIT 4,L` (R292). -/
def execBit4L (s : State) : Host.Outcome State Fault Refusal := .next (s.bitR8 4 .l)

/-- `BIT 4,(HL)` (R292). -/
def execBit4IndHl (s : State) : Host.Outcome State Fault Refusal := .next (s.bitR8 4 .indHl)

/-- `BIT 4,A` (R292). -/
def execBit4A (s : State) : Host.Outcome State Fault Refusal := .next (s.bitR8 4 .a)

/-- `BIT 5,B` (R292). -/
def execBit5B (s : State) : Host.Outcome State Fault Refusal := .next (s.bitR8 5 .b)

/-- `BIT 5,C` (R292). -/
def execBit5C (s : State) : Host.Outcome State Fault Refusal := .next (s.bitR8 5 .c)

/-- `BIT 5,D` (R292). -/
def execBit5D (s : State) : Host.Outcome State Fault Refusal := .next (s.bitR8 5 .d)

/-- `BIT 5,E` (R292). -/
def execBit5E (s : State) : Host.Outcome State Fault Refusal := .next (s.bitR8 5 .e)

/-- `BIT 5,H` (R292). -/
def execBit5H (s : State) : Host.Outcome State Fault Refusal := .next (s.bitR8 5 .h)

/-- `BIT 5,L` (R292). -/
def execBit5L (s : State) : Host.Outcome State Fault Refusal := .next (s.bitR8 5 .l)

/-- `BIT 5,(HL)` (R292). -/
def execBit5IndHl (s : State) : Host.Outcome State Fault Refusal := .next (s.bitR8 5 .indHl)

/-- `BIT 5,A` (R292). -/
def execBit5A (s : State) : Host.Outcome State Fault Refusal := .next (s.bitR8 5 .a)

/-- `BIT 6,B` (R292). -/
def execBit6B (s : State) : Host.Outcome State Fault Refusal := .next (s.bitR8 6 .b)

/-- `BIT 6,C` (R292). -/
def execBit6C (s : State) : Host.Outcome State Fault Refusal := .next (s.bitR8 6 .c)

/-- `BIT 6,D` (R292). -/
def execBit6D (s : State) : Host.Outcome State Fault Refusal := .next (s.bitR8 6 .d)

/-- `BIT 6,E` (R292). -/
def execBit6E (s : State) : Host.Outcome State Fault Refusal := .next (s.bitR8 6 .e)

/-- `BIT 6,H` (R292). -/
def execBit6H (s : State) : Host.Outcome State Fault Refusal := .next (s.bitR8 6 .h)

/-- `BIT 6,L` (R292). -/
def execBit6L (s : State) : Host.Outcome State Fault Refusal := .next (s.bitR8 6 .l)

/-- `BIT 6,(HL)` (R292). -/
def execBit6IndHl (s : State) : Host.Outcome State Fault Refusal := .next (s.bitR8 6 .indHl)

/-- `BIT 6,A` (R292). -/
def execBit6A (s : State) : Host.Outcome State Fault Refusal := .next (s.bitR8 6 .a)

/-- `BIT 7,B` (R292). -/
def execBit7B (s : State) : Host.Outcome State Fault Refusal := .next (s.bitR8 7 .b)

/-- `BIT 7,C` (R292). -/
def execBit7C (s : State) : Host.Outcome State Fault Refusal := .next (s.bitR8 7 .c)

/-- `BIT 7,D` (R292). -/
def execBit7D (s : State) : Host.Outcome State Fault Refusal := .next (s.bitR8 7 .d)

/-- `BIT 7,E` (R292). -/
def execBit7E (s : State) : Host.Outcome State Fault Refusal := .next (s.bitR8 7 .e)

/-- `BIT 7,H` (R292). -/
def execBit7H (s : State) : Host.Outcome State Fault Refusal := .next (s.bitR8 7 .h)

/-- `BIT 7,L` (R292). -/
def execBit7L (s : State) : Host.Outcome State Fault Refusal := .next (s.bitR8 7 .l)

/-- `BIT 7,(HL)` (R292). -/
def execBit7IndHl (s : State) : Host.Outcome State Fault Refusal := .next (s.bitR8 7 .indHl)

/-- `BIT 7,A` (R292). -/
def execBit7A (s : State) : Host.Outcome State Fault Refusal := .next (s.bitR8 7 .a)

end Sys2Proof.Machine
end

