-- ==== Sys2Proof/Machine/CbRes.lean ====
section
/-!
DEFINITION. RES b,r, one definition per row (43_rotate_shift_bit.md R293).
-/

namespace Sys2Proof.Machine

/-- `RES 0,B` (R293). -/
def execRes0B (s : State) : Host.Outcome State Fault Refusal := .next (s.resR8 0 .b)

/-- `RES 0,C` (R293). -/
def execRes0C (s : State) : Host.Outcome State Fault Refusal := .next (s.resR8 0 .c)

/-- `RES 0,D` (R293). -/
def execRes0D (s : State) : Host.Outcome State Fault Refusal := .next (s.resR8 0 .d)

/-- `RES 0,E` (R293). -/
def execRes0E (s : State) : Host.Outcome State Fault Refusal := .next (s.resR8 0 .e)

/-- `RES 0,H` (R293). -/
def execRes0H (s : State) : Host.Outcome State Fault Refusal := .next (s.resR8 0 .h)

/-- `RES 0,L` (R293). -/
def execRes0L (s : State) : Host.Outcome State Fault Refusal := .next (s.resR8 0 .l)

/-- `RES 0,(HL)` (R293). -/
def execRes0IndHl (s : State) : Host.Outcome State Fault Refusal := .next (s.resR8 0 .indHl)

/-- `RES 0,A` (R293). -/
def execRes0A (s : State) : Host.Outcome State Fault Refusal := .next (s.resR8 0 .a)

/-- `RES 1,B` (R293). -/
def execRes1B (s : State) : Host.Outcome State Fault Refusal := .next (s.resR8 1 .b)

/-- `RES 1,C` (R293). -/
def execRes1C (s : State) : Host.Outcome State Fault Refusal := .next (s.resR8 1 .c)

/-- `RES 1,D` (R293). -/
def execRes1D (s : State) : Host.Outcome State Fault Refusal := .next (s.resR8 1 .d)

/-- `RES 1,E` (R293). -/
def execRes1E (s : State) : Host.Outcome State Fault Refusal := .next (s.resR8 1 .e)

/-- `RES 1,H` (R293). -/
def execRes1H (s : State) : Host.Outcome State Fault Refusal := .next (s.resR8 1 .h)

/-- `RES 1,L` (R293). -/
def execRes1L (s : State) : Host.Outcome State Fault Refusal := .next (s.resR8 1 .l)

/-- `RES 1,(HL)` (R293). -/
def execRes1IndHl (s : State) : Host.Outcome State Fault Refusal := .next (s.resR8 1 .indHl)

/-- `RES 1,A` (R293). -/
def execRes1A (s : State) : Host.Outcome State Fault Refusal := .next (s.resR8 1 .a)

/-- `RES 2,B` (R293). -/
def execRes2B (s : State) : Host.Outcome State Fault Refusal := .next (s.resR8 2 .b)

/-- `RES 2,C` (R293). -/
def execRes2C (s : State) : Host.Outcome State Fault Refusal := .next (s.resR8 2 .c)

/-- `RES 2,D` (R293). -/
def execRes2D (s : State) : Host.Outcome State Fault Refusal := .next (s.resR8 2 .d)

/-- `RES 2,E` (R293). -/
def execRes2E (s : State) : Host.Outcome State Fault Refusal := .next (s.resR8 2 .e)

/-- `RES 2,H` (R293). -/
def execRes2H (s : State) : Host.Outcome State Fault Refusal := .next (s.resR8 2 .h)

/-- `RES 2,L` (R293). -/
def execRes2L (s : State) : Host.Outcome State Fault Refusal := .next (s.resR8 2 .l)

/-- `RES 2,(HL)` (R293). -/
def execRes2IndHl (s : State) : Host.Outcome State Fault Refusal := .next (s.resR8 2 .indHl)

/-- `RES 2,A` (R293). -/
def execRes2A (s : State) : Host.Outcome State Fault Refusal := .next (s.resR8 2 .a)

/-- `RES 3,B` (R293). -/
def execRes3B (s : State) : Host.Outcome State Fault Refusal := .next (s.resR8 3 .b)

/-- `RES 3,C` (R293). -/
def execRes3C (s : State) : Host.Outcome State Fault Refusal := .next (s.resR8 3 .c)

/-- `RES 3,D` (R293). -/
def execRes3D (s : State) : Host.Outcome State Fault Refusal := .next (s.resR8 3 .d)

/-- `RES 3,E` (R293). -/
def execRes3E (s : State) : Host.Outcome State Fault Refusal := .next (s.resR8 3 .e)

/-- `RES 3,H` (R293). -/
def execRes3H (s : State) : Host.Outcome State Fault Refusal := .next (s.resR8 3 .h)

/-- `RES 3,L` (R293). -/
def execRes3L (s : State) : Host.Outcome State Fault Refusal := .next (s.resR8 3 .l)

/-- `RES 3,(HL)` (R293). -/
def execRes3IndHl (s : State) : Host.Outcome State Fault Refusal := .next (s.resR8 3 .indHl)

/-- `RES 3,A` (R293). -/
def execRes3A (s : State) : Host.Outcome State Fault Refusal := .next (s.resR8 3 .a)

/-- `RES 4,B` (R293). -/
def execRes4B (s : State) : Host.Outcome State Fault Refusal := .next (s.resR8 4 .b)

/-- `RES 4,C` (R293). -/
def execRes4C (s : State) : Host.Outcome State Fault Refusal := .next (s.resR8 4 .c)

/-- `RES 4,D` (R293). -/
def execRes4D (s : State) : Host.Outcome State Fault Refusal := .next (s.resR8 4 .d)

/-- `RES 4,E` (R293). -/
def execRes4E (s : State) : Host.Outcome State Fault Refusal := .next (s.resR8 4 .e)

/-- `RES 4,H` (R293). -/
def execRes4H (s : State) : Host.Outcome State Fault Refusal := .next (s.resR8 4 .h)

/-- `RES 4,L` (R293). -/
def execRes4L (s : State) : Host.Outcome State Fault Refusal := .next (s.resR8 4 .l)

/-- `RES 4,(HL)` (R293). -/
def execRes4IndHl (s : State) : Host.Outcome State Fault Refusal := .next (s.resR8 4 .indHl)

/-- `RES 4,A` (R293). -/
def execRes4A (s : State) : Host.Outcome State Fault Refusal := .next (s.resR8 4 .a)

/-- `RES 5,B` (R293). -/
def execRes5B (s : State) : Host.Outcome State Fault Refusal := .next (s.resR8 5 .b)

/-- `RES 5,C` (R293). -/
def execRes5C (s : State) : Host.Outcome State Fault Refusal := .next (s.resR8 5 .c)

/-- `RES 5,D` (R293). -/
def execRes5D (s : State) : Host.Outcome State Fault Refusal := .next (s.resR8 5 .d)

/-- `RES 5,E` (R293). -/
def execRes5E (s : State) : Host.Outcome State Fault Refusal := .next (s.resR8 5 .e)

/-- `RES 5,H` (R293). -/
def execRes5H (s : State) : Host.Outcome State Fault Refusal := .next (s.resR8 5 .h)

/-- `RES 5,L` (R293). -/
def execRes5L (s : State) : Host.Outcome State Fault Refusal := .next (s.resR8 5 .l)

/-- `RES 5,(HL)` (R293). -/
def execRes5IndHl (s : State) : Host.Outcome State Fault Refusal := .next (s.resR8 5 .indHl)

/-- `RES 5,A` (R293). -/
def execRes5A (s : State) : Host.Outcome State Fault Refusal := .next (s.resR8 5 .a)

/-- `RES 6,B` (R293). -/
def execRes6B (s : State) : Host.Outcome State Fault Refusal := .next (s.resR8 6 .b)

/-- `RES 6,C` (R293). -/
def execRes6C (s : State) : Host.Outcome State Fault Refusal := .next (s.resR8 6 .c)

/-- `RES 6,D` (R293). -/
def execRes6D (s : State) : Host.Outcome State Fault Refusal := .next (s.resR8 6 .d)

/-- `RES 6,E` (R293). -/
def execRes6E (s : State) : Host.Outcome State Fault Refusal := .next (s.resR8 6 .e)

/-- `RES 6,H` (R293). -/
def execRes6H (s : State) : Host.Outcome State Fault Refusal := .next (s.resR8 6 .h)

/-- `RES 6,L` (R293). -/
def execRes6L (s : State) : Host.Outcome State Fault Refusal := .next (s.resR8 6 .l)

/-- `RES 6,(HL)` (R293). -/
def execRes6IndHl (s : State) : Host.Outcome State Fault Refusal := .next (s.resR8 6 .indHl)

/-- `RES 6,A` (R293). -/
def execRes6A (s : State) : Host.Outcome State Fault Refusal := .next (s.resR8 6 .a)

/-- `RES 7,B` (R293). -/
def execRes7B (s : State) : Host.Outcome State Fault Refusal := .next (s.resR8 7 .b)

/-- `RES 7,C` (R293). -/
def execRes7C (s : State) : Host.Outcome State Fault Refusal := .next (s.resR8 7 .c)

/-- `RES 7,D` (R293). -/
def execRes7D (s : State) : Host.Outcome State Fault Refusal := .next (s.resR8 7 .d)

/-- `RES 7,E` (R293). -/
def execRes7E (s : State) : Host.Outcome State Fault Refusal := .next (s.resR8 7 .e)

/-- `RES 7,H` (R293). -/
def execRes7H (s : State) : Host.Outcome State Fault Refusal := .next (s.resR8 7 .h)

/-- `RES 7,L` (R293). -/
def execRes7L (s : State) : Host.Outcome State Fault Refusal := .next (s.resR8 7 .l)

/-- `RES 7,(HL)` (R293). -/
def execRes7IndHl (s : State) : Host.Outcome State Fault Refusal := .next (s.resR8 7 .indHl)

/-- `RES 7,A` (R293). -/
def execRes7A (s : State) : Host.Outcome State Fault Refusal := .next (s.resR8 7 .a)

end Sys2Proof.Machine
end

