-- ==== Sys2Proof/Machine/CbRotate.lean ====
section
/-!
DEFINITION. The CB rotates, shifts and SWAP, one definition per row (43_rotate_shift_bit.md R284 to R291).
-/

namespace Sys2Proof.Machine

/-- `RLC B` (R284). -/
def execRlcB (s : State) : Host.Outcome State Fault Refusal := .next (s.rotR8 .rlc .b)

/-- `RLC C` (R284). -/
def execRlcC (s : State) : Host.Outcome State Fault Refusal := .next (s.rotR8 .rlc .c)

/-- `RLC D` (R284). -/
def execRlcD (s : State) : Host.Outcome State Fault Refusal := .next (s.rotR8 .rlc .d)

/-- `RLC E` (R284). -/
def execRlcE (s : State) : Host.Outcome State Fault Refusal := .next (s.rotR8 .rlc .e)

/-- `RLC H` (R284). -/
def execRlcH (s : State) : Host.Outcome State Fault Refusal := .next (s.rotR8 .rlc .h)

/-- `RLC L` (R284). -/
def execRlcL (s : State) : Host.Outcome State Fault Refusal := .next (s.rotR8 .rlc .l)

/-- `RLC (HL)` (R284). -/
def execRlcIndHl (s : State) : Host.Outcome State Fault Refusal := .next (s.rotR8 .rlc .indHl)

/-- `RLC A` (R284). -/
def execRlcA (s : State) : Host.Outcome State Fault Refusal := .next (s.rotR8 .rlc .a)

/-- `RRC B` (R285). -/
def execRrcB (s : State) : Host.Outcome State Fault Refusal := .next (s.rotR8 .rrc .b)

/-- `RRC C` (R285). -/
def execRrcC (s : State) : Host.Outcome State Fault Refusal := .next (s.rotR8 .rrc .c)

/-- `RRC D` (R285). -/
def execRrcD (s : State) : Host.Outcome State Fault Refusal := .next (s.rotR8 .rrc .d)

/-- `RRC E` (R285). -/
def execRrcE (s : State) : Host.Outcome State Fault Refusal := .next (s.rotR8 .rrc .e)

/-- `RRC H` (R285). -/
def execRrcH (s : State) : Host.Outcome State Fault Refusal := .next (s.rotR8 .rrc .h)

/-- `RRC L` (R285). -/
def execRrcL (s : State) : Host.Outcome State Fault Refusal := .next (s.rotR8 .rrc .l)

/-- `RRC (HL)` (R285). -/
def execRrcIndHl (s : State) : Host.Outcome State Fault Refusal := .next (s.rotR8 .rrc .indHl)

/-- `RRC A` (R285). -/
def execRrcA (s : State) : Host.Outcome State Fault Refusal := .next (s.rotR8 .rrc .a)

/-- `RL B` (R286). -/
def execRlB (s : State) : Host.Outcome State Fault Refusal := .next (s.rotR8 .rl .b)

/-- `RL C` (R286). -/
def execRlC (s : State) : Host.Outcome State Fault Refusal := .next (s.rotR8 .rl .c)

/-- `RL D` (R286). -/
def execRlD (s : State) : Host.Outcome State Fault Refusal := .next (s.rotR8 .rl .d)

/-- `RL E` (R286). -/
def execRlE (s : State) : Host.Outcome State Fault Refusal := .next (s.rotR8 .rl .e)

/-- `RL H` (R286). -/
def execRlH (s : State) : Host.Outcome State Fault Refusal := .next (s.rotR8 .rl .h)

/-- `RL L` (R286). -/
def execRlL (s : State) : Host.Outcome State Fault Refusal := .next (s.rotR8 .rl .l)

/-- `RL (HL)` (R286). -/
def execRlIndHl (s : State) : Host.Outcome State Fault Refusal := .next (s.rotR8 .rl .indHl)

/-- `RL A` (R286). -/
def execRlA (s : State) : Host.Outcome State Fault Refusal := .next (s.rotR8 .rl .a)

/-- `RR B` (R287). -/
def execRrB (s : State) : Host.Outcome State Fault Refusal := .next (s.rotR8 .rr .b)

/-- `RR C` (R287). -/
def execRrC (s : State) : Host.Outcome State Fault Refusal := .next (s.rotR8 .rr .c)

/-- `RR D` (R287). -/
def execRrD (s : State) : Host.Outcome State Fault Refusal := .next (s.rotR8 .rr .d)

/-- `RR E` (R287). -/
def execRrE (s : State) : Host.Outcome State Fault Refusal := .next (s.rotR8 .rr .e)

/-- `RR H` (R287). -/
def execRrH (s : State) : Host.Outcome State Fault Refusal := .next (s.rotR8 .rr .h)

/-- `RR L` (R287). -/
def execRrL (s : State) : Host.Outcome State Fault Refusal := .next (s.rotR8 .rr .l)

/-- `RR (HL)` (R287). -/
def execRrIndHl (s : State) : Host.Outcome State Fault Refusal := .next (s.rotR8 .rr .indHl)

/-- `RR A` (R287). -/
def execRrA (s : State) : Host.Outcome State Fault Refusal := .next (s.rotR8 .rr .a)

/-- `SLA B` (R288). -/
def execSlaB (s : State) : Host.Outcome State Fault Refusal := .next (s.rotR8 .sla .b)

/-- `SLA C` (R288). -/
def execSlaC (s : State) : Host.Outcome State Fault Refusal := .next (s.rotR8 .sla .c)

/-- `SLA D` (R288). -/
def execSlaD (s : State) : Host.Outcome State Fault Refusal := .next (s.rotR8 .sla .d)

/-- `SLA E` (R288). -/
def execSlaE (s : State) : Host.Outcome State Fault Refusal := .next (s.rotR8 .sla .e)

/-- `SLA H` (R288). -/
def execSlaH (s : State) : Host.Outcome State Fault Refusal := .next (s.rotR8 .sla .h)

/-- `SLA L` (R288). -/
def execSlaL (s : State) : Host.Outcome State Fault Refusal := .next (s.rotR8 .sla .l)

/-- `SLA (HL)` (R288). -/
def execSlaIndHl (s : State) : Host.Outcome State Fault Refusal := .next (s.rotR8 .sla .indHl)

/-- `SLA A` (R288). -/
def execSlaA (s : State) : Host.Outcome State Fault Refusal := .next (s.rotR8 .sla .a)

/-- `SRA B` (R289). -/
def execSraB (s : State) : Host.Outcome State Fault Refusal := .next (s.rotR8 .sra .b)

/-- `SRA C` (R289). -/
def execSraC (s : State) : Host.Outcome State Fault Refusal := .next (s.rotR8 .sra .c)

/-- `SRA D` (R289). -/
def execSraD (s : State) : Host.Outcome State Fault Refusal := .next (s.rotR8 .sra .d)

/-- `SRA E` (R289). -/
def execSraE (s : State) : Host.Outcome State Fault Refusal := .next (s.rotR8 .sra .e)

/-- `SRA H` (R289). -/
def execSraH (s : State) : Host.Outcome State Fault Refusal := .next (s.rotR8 .sra .h)

/-- `SRA L` (R289). -/
def execSraL (s : State) : Host.Outcome State Fault Refusal := .next (s.rotR8 .sra .l)

/-- `SRA (HL)` (R289). -/
def execSraIndHl (s : State) : Host.Outcome State Fault Refusal := .next (s.rotR8 .sra .indHl)

/-- `SRA A` (R289). -/
def execSraA (s : State) : Host.Outcome State Fault Refusal := .next (s.rotR8 .sra .a)

/-- `SWAP B` (R290). -/
def execSwapB (s : State) : Host.Outcome State Fault Refusal := .next (s.rotR8 .swap .b)

/-- `SWAP C` (R290). -/
def execSwapC (s : State) : Host.Outcome State Fault Refusal := .next (s.rotR8 .swap .c)

/-- `SWAP D` (R290). -/
def execSwapD (s : State) : Host.Outcome State Fault Refusal := .next (s.rotR8 .swap .d)

/-- `SWAP E` (R290). -/
def execSwapE (s : State) : Host.Outcome State Fault Refusal := .next (s.rotR8 .swap .e)

/-- `SWAP H` (R290). -/
def execSwapH (s : State) : Host.Outcome State Fault Refusal := .next (s.rotR8 .swap .h)

/-- `SWAP L` (R290). -/
def execSwapL (s : State) : Host.Outcome State Fault Refusal := .next (s.rotR8 .swap .l)

/-- `SWAP (HL)` (R290). -/
def execSwapIndHl (s : State) : Host.Outcome State Fault Refusal := .next (s.rotR8 .swap .indHl)

/-- `SWAP A` (R290). -/
def execSwapA (s : State) : Host.Outcome State Fault Refusal := .next (s.rotR8 .swap .a)

/-- `SRL B` (R291). -/
def execSrlB (s : State) : Host.Outcome State Fault Refusal := .next (s.rotR8 .srl .b)

/-- `SRL C` (R291). -/
def execSrlC (s : State) : Host.Outcome State Fault Refusal := .next (s.rotR8 .srl .c)

/-- `SRL D` (R291). -/
def execSrlD (s : State) : Host.Outcome State Fault Refusal := .next (s.rotR8 .srl .d)

/-- `SRL E` (R291). -/
def execSrlE (s : State) : Host.Outcome State Fault Refusal := .next (s.rotR8 .srl .e)

/-- `SRL H` (R291). -/
def execSrlH (s : State) : Host.Outcome State Fault Refusal := .next (s.rotR8 .srl .h)

/-- `SRL L` (R291). -/
def execSrlL (s : State) : Host.Outcome State Fault Refusal := .next (s.rotR8 .srl .l)

/-- `SRL (HL)` (R291). -/
def execSrlIndHl (s : State) : Host.Outcome State Fault Refusal := .next (s.rotR8 .srl .indHl)

/-- `SRL A` (R291). -/
def execSrlA (s : State) : Host.Outcome State Fault Refusal := .next (s.rotR8 .srl .a)

end Sys2Proof.Machine
end

