-- ==== Sys2Proof/Machine/CbSet.lean ====
section
/-!
DEFINITION. SET b,r, one definition per row (43_rotate_shift_bit.md R294).
-/

namespace Sys2Proof.Machine

/-- `SET 0,B` (R294). -/
def execSet0B (s : State) : Host.Outcome State Fault Refusal := .next (s.setR8 0 .b)

/-- `SET 0,C` (R294). -/
def execSet0C (s : State) : Host.Outcome State Fault Refusal := .next (s.setR8 0 .c)

/-- `SET 0,D` (R294). -/
def execSet0D (s : State) : Host.Outcome State Fault Refusal := .next (s.setR8 0 .d)

/-- `SET 0,E` (R294). -/
def execSet0E (s : State) : Host.Outcome State Fault Refusal := .next (s.setR8 0 .e)

/-- `SET 0,H` (R294). -/
def execSet0H (s : State) : Host.Outcome State Fault Refusal := .next (s.setR8 0 .h)

/-- `SET 0,L` (R294). -/
def execSet0L (s : State) : Host.Outcome State Fault Refusal := .next (s.setR8 0 .l)

/-- `SET 0,(HL)` (R294). -/
def execSet0IndHl (s : State) : Host.Outcome State Fault Refusal := .next (s.setR8 0 .indHl)

/-- `SET 0,A` (R294). -/
def execSet0A (s : State) : Host.Outcome State Fault Refusal := .next (s.setR8 0 .a)

/-- `SET 1,B` (R294). -/
def execSet1B (s : State) : Host.Outcome State Fault Refusal := .next (s.setR8 1 .b)

/-- `SET 1,C` (R294). -/
def execSet1C (s : State) : Host.Outcome State Fault Refusal := .next (s.setR8 1 .c)

/-- `SET 1,D` (R294). -/
def execSet1D (s : State) : Host.Outcome State Fault Refusal := .next (s.setR8 1 .d)

/-- `SET 1,E` (R294). -/
def execSet1E (s : State) : Host.Outcome State Fault Refusal := .next (s.setR8 1 .e)

/-- `SET 1,H` (R294). -/
def execSet1H (s : State) : Host.Outcome State Fault Refusal := .next (s.setR8 1 .h)

/-- `SET 1,L` (R294). -/
def execSet1L (s : State) : Host.Outcome State Fault Refusal := .next (s.setR8 1 .l)

/-- `SET 1,(HL)` (R294). -/
def execSet1IndHl (s : State) : Host.Outcome State Fault Refusal := .next (s.setR8 1 .indHl)

/-- `SET 1,A` (R294). -/
def execSet1A (s : State) : Host.Outcome State Fault Refusal := .next (s.setR8 1 .a)

/-- `SET 2,B` (R294). -/
def execSet2B (s : State) : Host.Outcome State Fault Refusal := .next (s.setR8 2 .b)

/-- `SET 2,C` (R294). -/
def execSet2C (s : State) : Host.Outcome State Fault Refusal := .next (s.setR8 2 .c)

/-- `SET 2,D` (R294). -/
def execSet2D (s : State) : Host.Outcome State Fault Refusal := .next (s.setR8 2 .d)

/-- `SET 2,E` (R294). -/
def execSet2E (s : State) : Host.Outcome State Fault Refusal := .next (s.setR8 2 .e)

/-- `SET 2,H` (R294). -/
def execSet2H (s : State) : Host.Outcome State Fault Refusal := .next (s.setR8 2 .h)

/-- `SET 2,L` (R294). -/
def execSet2L (s : State) : Host.Outcome State Fault Refusal := .next (s.setR8 2 .l)

/-- `SET 2,(HL)` (R294). -/
def execSet2IndHl (s : State) : Host.Outcome State Fault Refusal := .next (s.setR8 2 .indHl)

/-- `SET 2,A` (R294). -/
def execSet2A (s : State) : Host.Outcome State Fault Refusal := .next (s.setR8 2 .a)

/-- `SET 3,B` (R294). -/
def execSet3B (s : State) : Host.Outcome State Fault Refusal := .next (s.setR8 3 .b)

/-- `SET 3,C` (R294). -/
def execSet3C (s : State) : Host.Outcome State Fault Refusal := .next (s.setR8 3 .c)

/-- `SET 3,D` (R294). -/
def execSet3D (s : State) : Host.Outcome State Fault Refusal := .next (s.setR8 3 .d)

/-- `SET 3,E` (R294). -/
def execSet3E (s : State) : Host.Outcome State Fault Refusal := .next (s.setR8 3 .e)

/-- `SET 3,H` (R294). -/
def execSet3H (s : State) : Host.Outcome State Fault Refusal := .next (s.setR8 3 .h)

/-- `SET 3,L` (R294). -/
def execSet3L (s : State) : Host.Outcome State Fault Refusal := .next (s.setR8 3 .l)

/-- `SET 3,(HL)` (R294). -/
def execSet3IndHl (s : State) : Host.Outcome State Fault Refusal := .next (s.setR8 3 .indHl)

/-- `SET 3,A` (R294). -/
def execSet3A (s : State) : Host.Outcome State Fault Refusal := .next (s.setR8 3 .a)

/-- `SET 4,B` (R294). -/
def execSet4B (s : State) : Host.Outcome State Fault Refusal := .next (s.setR8 4 .b)

/-- `SET 4,C` (R294). -/
def execSet4C (s : State) : Host.Outcome State Fault Refusal := .next (s.setR8 4 .c)

/-- `SET 4,D` (R294). -/
def execSet4D (s : State) : Host.Outcome State Fault Refusal := .next (s.setR8 4 .d)

/-- `SET 4,E` (R294). -/
def execSet4E (s : State) : Host.Outcome State Fault Refusal := .next (s.setR8 4 .e)

/-- `SET 4,H` (R294). -/
def execSet4H (s : State) : Host.Outcome State Fault Refusal := .next (s.setR8 4 .h)

/-- `SET 4,L` (R294). -/
def execSet4L (s : State) : Host.Outcome State Fault Refusal := .next (s.setR8 4 .l)

/-- `SET 4,(HL)` (R294). -/
def execSet4IndHl (s : State) : Host.Outcome State Fault Refusal := .next (s.setR8 4 .indHl)

/-- `SET 4,A` (R294). -/
def execSet4A (s : State) : Host.Outcome State Fault Refusal := .next (s.setR8 4 .a)

/-- `SET 5,B` (R294). -/
def execSet5B (s : State) : Host.Outcome State Fault Refusal := .next (s.setR8 5 .b)

/-- `SET 5,C` (R294). -/
def execSet5C (s : State) : Host.Outcome State Fault Refusal := .next (s.setR8 5 .c)

/-- `SET 5,D` (R294). -/
def execSet5D (s : State) : Host.Outcome State Fault Refusal := .next (s.setR8 5 .d)

/-- `SET 5,E` (R294). -/
def execSet5E (s : State) : Host.Outcome State Fault Refusal := .next (s.setR8 5 .e)

/-- `SET 5,H` (R294). -/
def execSet5H (s : State) : Host.Outcome State Fault Refusal := .next (s.setR8 5 .h)

/-- `SET 5,L` (R294). -/
def execSet5L (s : State) : Host.Outcome State Fault Refusal := .next (s.setR8 5 .l)

/-- `SET 5,(HL)` (R294). -/
def execSet5IndHl (s : State) : Host.Outcome State Fault Refusal := .next (s.setR8 5 .indHl)

/-- `SET 5,A` (R294). -/
def execSet5A (s : State) : Host.Outcome State Fault Refusal := .next (s.setR8 5 .a)

/-- `SET 6,B` (R294). -/
def execSet6B (s : State) : Host.Outcome State Fault Refusal := .next (s.setR8 6 .b)

/-- `SET 6,C` (R294). -/
def execSet6C (s : State) : Host.Outcome State Fault Refusal := .next (s.setR8 6 .c)

/-- `SET 6,D` (R294). -/
def execSet6D (s : State) : Host.Outcome State Fault Refusal := .next (s.setR8 6 .d)

/-- `SET 6,E` (R294). -/
def execSet6E (s : State) : Host.Outcome State Fault Refusal := .next (s.setR8 6 .e)

/-- `SET 6,H` (R294). -/
def execSet6H (s : State) : Host.Outcome State Fault Refusal := .next (s.setR8 6 .h)

/-- `SET 6,L` (R294). -/
def execSet6L (s : State) : Host.Outcome State Fault Refusal := .next (s.setR8 6 .l)

/-- `SET 6,(HL)` (R294). -/
def execSet6IndHl (s : State) : Host.Outcome State Fault Refusal := .next (s.setR8 6 .indHl)

/-- `SET 6,A` (R294). -/
def execSet6A (s : State) : Host.Outcome State Fault Refusal := .next (s.setR8 6 .a)

/-- `SET 7,B` (R294). -/
def execSet7B (s : State) : Host.Outcome State Fault Refusal := .next (s.setR8 7 .b)

/-- `SET 7,C` (R294). -/
def execSet7C (s : State) : Host.Outcome State Fault Refusal := .next (s.setR8 7 .c)

/-- `SET 7,D` (R294). -/
def execSet7D (s : State) : Host.Outcome State Fault Refusal := .next (s.setR8 7 .d)

/-- `SET 7,E` (R294). -/
def execSet7E (s : State) : Host.Outcome State Fault Refusal := .next (s.setR8 7 .e)

/-- `SET 7,H` (R294). -/
def execSet7H (s : State) : Host.Outcome State Fault Refusal := .next (s.setR8 7 .h)

/-- `SET 7,L` (R294). -/
def execSet7L (s : State) : Host.Outcome State Fault Refusal := .next (s.setR8 7 .l)

/-- `SET 7,(HL)` (R294). -/
def execSet7IndHl (s : State) : Host.Outcome State Fault Refusal := .next (s.setR8 7 .indHl)

/-- `SET 7,A` (R294). -/
def execSet7A (s : State) : Host.Outcome State Fault Refusal := .next (s.setR8 7 .a)

end Sys2Proof.Machine
end

