-- ==== Sys2Proof/Machine/Control.lean ====
section
/-!
DEFINITION. Control transfer (44_control.md R310 to R321): the shared operations, then one definition per row of the table. PC already points past the instruction.
-/

namespace Sys2Proof.Machine

/-- `PC <- a` (R311). -/
def State.jump (s : State) (a : Word) : State := (s.setPc a).withCycles 16

/-- `PC <- HL` (R313). -/
def State.jumpHl (s : State) : State := (s.setPc s.cpu.hl).withCycles 4

/-- `PC <- (PC + sext_16(e)) mod 2^16` (R314). -/
def State.jumpRel (s : State) (e : Byte) : State := (s.setPc (s.cpu.pc + sext16 e)).withCycles 12

/-- `Push16(PC); PC <- a` (R316, R320). -/
def State.call (s : State) (a : Word) (cycles : Nat) : State := ((s.push16 s.cpu.pc).setPc a).withCycles cycles

/-- `PC <- Pop16()` (R318). -/
def State.ret (s : State) (cycles : Nat) : State := (s.dropTop.setPc s.stackTop).withCycles cycles

/-- JP cc: 16 cycles taken, 12 not taken (R312). -/
def State.jumpCc (s : State) (cc : Cond) (a : Word) : State := if s.cond cc then s.jump a else s.withCycles 12

/-- JR cc: 12 cycles taken, 8 not taken (R315). -/
def State.jumpRelCc (s : State) (cc : Cond) (e : Byte) : State := if s.cond cc then s.jumpRel e else s.withCycles 8

/-- CALL cc: 24 cycles taken, 12 not taken (R317). -/
def State.callCc (s : State) (cc : Cond) (a : Word) : State := if s.cond cc then s.call a 24 else s.withCycles 12

/-- RET cc: 20 cycles taken, 8 not taken (R319). -/
def State.retCc (s : State) (cc : Cond) : State := if s.cond cc then s.ret 20 else s.withCycles 8

/-- `PC <- Pop16(); IME <- 1; ime_pending <- 0` (R321). -/
def State.reti (s : State) : State := s.returnFromInterrupt.withCycles 16

/-- `JR e8` (R314). -/
def execJrE8 (e : Byte) (s : State) : Host.Outcome State Fault Refusal := .next (s.jumpRel e)

/-- `JR NZ,e8` (R315). -/
def execJrNzE8 (e : Byte) (s : State) : Host.Outcome State Fault Refusal := .next (s.jumpRelCc .nz e)

/-- `JR Z,e8` (R315). -/
def execJrZE8 (e : Byte) (s : State) : Host.Outcome State Fault Refusal := .next (s.jumpRelCc .z e)

/-- `JR NC,e8` (R315). -/
def execJrNcE8 (e : Byte) (s : State) : Host.Outcome State Fault Refusal := .next (s.jumpRelCc .nc e)

/-- `JR C,e8` (R315). -/
def execJrCE8 (e : Byte) (s : State) : Host.Outcome State Fault Refusal := .next (s.jumpRelCc .c e)

/-- `RET NZ` (R319). -/
def execRetNz (s : State) : Host.Outcome State Fault Refusal := .next (s.retCc .nz)

/-- `JP NZ,a16` (R312). -/
def execJpNzA16 (a : Word) (s : State) : Host.Outcome State Fault Refusal := .next (s.jumpCc .nz a)

/-- `JP a16` (R311). -/
def execJpA16 (a : Word) (s : State) : Host.Outcome State Fault Refusal := .next (s.jump a)

/-- `CALL NZ,a16` (R317). -/
def execCallNzA16 (a : Word) (s : State) : Host.Outcome State Fault Refusal := .next (s.callCc .nz a)

/-- `RST 00H` (R320). -/
def execRst00 (s : State) : Host.Outcome State Fault Refusal := .next (s.call 0x0000 16)

/-- `RET Z` (R319). -/
def execRetZ (s : State) : Host.Outcome State Fault Refusal := .next (s.retCc .z)

/-- `RET` (R318). -/
def execRet (s : State) : Host.Outcome State Fault Refusal := .next (s.ret 16)

/-- `JP Z,a16` (R312). -/
def execJpZA16 (a : Word) (s : State) : Host.Outcome State Fault Refusal := .next (s.jumpCc .z a)

/-- `CALL Z,a16` (R317). -/
def execCallZA16 (a : Word) (s : State) : Host.Outcome State Fault Refusal := .next (s.callCc .z a)

/-- `CALL a16` (R316). -/
def execCallA16 (a : Word) (s : State) : Host.Outcome State Fault Refusal := .next (s.call a 24)

/-- `RST 08H` (R320). -/
def execRst08 (s : State) : Host.Outcome State Fault Refusal := .next (s.call 0x0008 16)

/-- `RET NC` (R319). -/
def execRetNc (s : State) : Host.Outcome State Fault Refusal := .next (s.retCc .nc)

/-- `JP NC,a16` (R312). -/
def execJpNcA16 (a : Word) (s : State) : Host.Outcome State Fault Refusal := .next (s.jumpCc .nc a)

/-- `CALL NC,a16` (R317). -/
def execCallNcA16 (a : Word) (s : State) : Host.Outcome State Fault Refusal := .next (s.callCc .nc a)

/-- `RST 10H` (R320). -/
def execRst10 (s : State) : Host.Outcome State Fault Refusal := .next (s.call 0x0010 16)

/-- `RET C` (R319). -/
def execRetC (s : State) : Host.Outcome State Fault Refusal := .next (s.retCc .c)

/-- `RETI` (R321). -/
def execReti (s : State) : Host.Outcome State Fault Refusal := .next (s.reti)

/-- `JP C,a16` (R312). -/
def execJpCA16 (a : Word) (s : State) : Host.Outcome State Fault Refusal := .next (s.jumpCc .c a)

/-- `CALL C,a16` (R317). -/
def execCallCA16 (a : Word) (s : State) : Host.Outcome State Fault Refusal := .next (s.callCc .c a)

/-- `RST 18H` (R320). -/
def execRst18 (s : State) : Host.Outcome State Fault Refusal := .next (s.call 0x0018 16)

/-- `RST 20H` (R320). -/
def execRst20 (s : State) : Host.Outcome State Fault Refusal := .next (s.call 0x0020 16)

/-- `JP HL` (R313). -/
def execJpHl (s : State) : Host.Outcome State Fault Refusal := .next (s.jumpHl)

/-- `RST 28H` (R320). -/
def execRst28 (s : State) : Host.Outcome State Fault Refusal := .next (s.call 0x0028 16)

/-- `RST 30H` (R320). -/
def execRst30 (s : State) : Host.Outcome State Fault Refusal := .next (s.call 0x0030 16)

/-- `RST 38H` (R320). -/
def execRst38 (s : State) : Host.Outcome State Fault Refusal := .next (s.call 0x0038 16)

end Sys2Proof.Machine
end

