-- ==== Sys2Proof/Machine/Loads.lean ====
section
/-!
DEFINITION. Loads, stores and stack instructions (40_loads.md R200 to R225): the shared operations, then one definition per row of the table.
-/

namespace Sys2Proof.Machine

/-- `R8[d] <- R8[s]` (R200). -/
def State.copyReg (s : State) (rd rs : Reg8) : State := (s.setReg rd (s.cpu.reg rs)).withCycles 4

/-- `R8[d] <- MemRead(HL, 1)` (R201). -/
def State.loadReg (s : State) (rd : Reg8) : State := (s.setReg rd (s.memRead s.cpu.hl)).withCycles 8

/-- `MemWrite(HL, 1, R8[s])` (R202). -/
def State.storeReg (s : State) (rs : Reg8) : State := (s.memWrite s.cpu.hl (s.cpu.reg rs)).withCycles 8

/-- `R8[d] <- n` (R203) and `MemWrite(HL, 1, n)` (R204). -/
def State.loadImm (s : State) (x : R8) (n : Byte) : State := (s.writeR8 x n).withCycles (costOf x 8 12)

/-- `A <- MemRead(a, 1)` (R205, R206, R209, R211, R213). -/
def State.loadA (s : State) (a : Word) (cycles : Nat) : State := (s.setReg .a (s.memRead a)).withCycles cycles

/-- `MemWrite(a, 1, A)` (R207, R208, R210, R212, R214). -/
def State.storeA (s : State) (a : Word) (cycles : Nat) : State := (s.memWrite a s.cpu.a).withCycles cycles

/-- `MemWrite(HL, 1, A); HL <- (HL + d) mod 2^16` (R215, R216). -/
def State.storeAStep (s : State) (d : Word) : State :=
  ((s.memWrite s.cpu.hl s.cpu.a).setPair .hl (s.cpu.hl + d)).withCycles 8

/-- `A <- MemRead(HL, 1); HL <- (HL + d) mod 2^16` (R217, R218). -/
def State.loadAStep (s : State) (d : Word) : State :=
  ((s.setReg .a (s.memRead s.cpu.hl)).setPair .hl (s.cpu.hl + d)).withCycles 8

/-- `R16[p] <- n` (R219). -/
def State.loadPair (s : State) (p : R16) (n : Word) : State := (s.setPair p n).withCycles 12

/-- `MemWrite(a, 1, SP[7:0]); MemWrite(a + 1, 1, SP[15:8])` (R220). -/
def State.storeSp (s : State) (a : Word) : State := (s.memWrite16 a s.cpu.sp).withCycles 20

/-- `SP <- HL` (R221). -/
def State.loadSpHl (s : State) : State := (s.setSp s.cpu.hl).withCycles 8

/-- `HL <- SP + sext_16(e)`, H and C from the unsigned addition of e to the low byte of SP (R222). -/
def State.loadHlSp (s : State) (e : Byte) : State :=
  let lo := loByte s.cpu.sp
  ((s.setPair .hl (s.cpu.sp + sext16 e)).setFlags false false (halfCarryAdd lo e false) (carryAdd lo e false)).withCycles 12

/-- `Push16(R16stk[p])` (R223). -/
def State.pushPair (s : State) (p : R16Stk) : State := (s.push16 (s.cpu.stackPair p)).withCycles 16

/-- `R16stk[p] <- Pop16()` (R224, R225). -/
def State.popPair (s : State) (p : R16Stk) : State := (s.dropTop.setStackPair p s.stackTop).withCycles 12

/-- `LD BC,d16` (R219). -/
def execLdBcD16 (n : Word) (s : State) : Host.Outcome State Fault Refusal := .next (s.loadPair .bc n)

/-- `LD (BC),A` (R207). -/
def execLdIndBcA (s : State) : Host.Outcome State Fault Refusal := .next (s.storeA s.cpu.bc 8)

/-- `LD B,d8` (R203). -/
def execLdBD8 (n : Byte) (s : State) : Host.Outcome State Fault Refusal := .next (s.loadImm .b n)

/-- `LD (a16),SP` (R220). -/
def execLdIndA16Sp (a : Word) (s : State) : Host.Outcome State Fault Refusal := .next (s.storeSp a)

/-- `LD A,(BC)` (R205). -/
def execLdAIndBc (s : State) : Host.Outcome State Fault Refusal := .next (s.loadA s.cpu.bc 8)

/-- `LD C,d8` (R203). -/
def execLdCD8 (n : Byte) (s : State) : Host.Outcome State Fault Refusal := .next (s.loadImm .c n)

/-- `LD DE,d16` (R219). -/
def execLdDeD16 (n : Word) (s : State) : Host.Outcome State Fault Refusal := .next (s.loadPair .de n)

/-- `LD (DE),A` (R208). -/
def execLdIndDeA (s : State) : Host.Outcome State Fault Refusal := .next (s.storeA s.cpu.de 8)

/-- `LD D,d8` (R203). -/
def execLdDD8 (n : Byte) (s : State) : Host.Outcome State Fault Refusal := .next (s.loadImm .d n)

/-- `LD A,(DE)` (R206). -/
def execLdAIndDe (s : State) : Host.Outcome State Fault Refusal := .next (s.loadA s.cpu.de 8)

/-- `LD E,d8` (R203). -/
def execLdED8 (n : Byte) (s : State) : Host.Outcome State Fault Refusal := .next (s.loadImm .e n)

/-- `LD HL,d16` (R219). -/
def execLdHlD16 (n : Word) (s : State) : Host.Outcome State Fault Refusal := .next (s.loadPair .hl n)

/-- `LD (HL+),A` (R215). -/
def execLdIndHliA (s : State) : Host.Outcome State Fault Refusal := .next (s.storeAStep 1)

/-- `LD H,d8` (R203). -/
def execLdHD8 (n : Byte) (s : State) : Host.Outcome State Fault Refusal := .next (s.loadImm .h n)

/-- `LD A,(HL+)` (R217). -/
def execLdAIndHli (s : State) : Host.Outcome State Fault Refusal := .next (s.loadAStep 1)

/-- `LD L,d8` (R203). -/
def execLdLD8 (n : Byte) (s : State) : Host.Outcome State Fault Refusal := .next (s.loadImm .l n)

/-- `LD SP,d16` (R219). -/
def execLdSpD16 (n : Word) (s : State) : Host.Outcome State Fault Refusal := .next (s.loadPair .sp n)

/-- `LD (HL-),A` (R216). -/
def execLdIndHldA (s : State) : Host.Outcome State Fault Refusal := .next (s.storeAStep (-1))

/-- `LD (HL),d8` (R204). -/
def execLdIndHlD8 (n : Byte) (s : State) : Host.Outcome State Fault Refusal := .next (s.loadImm .indHl n)

/-- `LD A,(HL-)` (R218). -/
def execLdAIndHld (s : State) : Host.Outcome State Fault Refusal := .next (s.loadAStep (-1))

/-- `LD A,d8` (R203). -/
def execLdAD8 (n : Byte) (s : State) : Host.Outcome State Fault Refusal := .next (s.loadImm .a n)

/-- `LD B,B` (R200). -/
def execLdBB (s : State) : Host.Outcome State Fault Refusal := .next (s.copyReg .b .b)

/-- `LD B,C` (R200). -/
def execLdBC (s : State) : Host.Outcome State Fault Refusal := .next (s.copyReg .b .c)

/-- `LD B,D` (R200). -/
def execLdBD (s : State) : Host.Outcome State Fault Refusal := .next (s.copyReg .b .d)

/-- `LD B,E` (R200). -/
def execLdBE (s : State) : Host.Outcome State Fault Refusal := .next (s.copyReg .b .e)

/-- `LD B,H` (R200). -/
def execLdBH (s : State) : Host.Outcome State Fault Refusal := .next (s.copyReg .b .h)

/-- `LD B,L` (R200). -/
def execLdBL (s : State) : Host.Outcome State Fault Refusal := .next (s.copyReg .b .l)

/-- `LD B,(HL)` (R201). -/
def execLdBIndHl (s : State) : Host.Outcome State Fault Refusal := .next (s.loadReg .b)

/-- `LD B,A` (R200). -/
def execLdBA (s : State) : Host.Outcome State Fault Refusal := .next (s.copyReg .b .a)

/-- `LD C,B` (R200). -/
def execLdCB (s : State) : Host.Outcome State Fault Refusal := .next (s.copyReg .c .b)

/-- `LD C,C` (R200). -/
def execLdCC (s : State) : Host.Outcome State Fault Refusal := .next (s.copyReg .c .c)

/-- `LD C,D` (R200). -/
def execLdCD (s : State) : Host.Outcome State Fault Refusal := .next (s.copyReg .c .d)

/-- `LD C,E` (R200). -/
def execLdCE (s : State) : Host.Outcome State Fault Refusal := .next (s.copyReg .c .e)

/-- `LD C,H` (R200). -/
def execLdCH (s : State) : Host.Outcome State Fault Refusal := .next (s.copyReg .c .h)

/-- `LD C,L` (R200). -/
def execLdCL (s : State) : Host.Outcome State Fault Refusal := .next (s.copyReg .c .l)

/-- `LD C,(HL)` (R201). -/
def execLdCIndHl (s : State) : Host.Outcome State Fault Refusal := .next (s.loadReg .c)

/-- `LD C,A` (R200). -/
def execLdCA (s : State) : Host.Outcome State Fault Refusal := .next (s.copyReg .c .a)

/-- `LD D,B` (R200). -/
def execLdDB (s : State) : Host.Outcome State Fault Refusal := .next (s.copyReg .d .b)

/-- `LD D,C` (R200). -/
def execLdDC (s : State) : Host.Outcome State Fault Refusal := .next (s.copyReg .d .c)

/-- `LD D,D` (R200). -/
def execLdDD (s : State) : Host.Outcome State Fault Refusal := .next (s.copyReg .d .d)

/-- `LD D,E` (R200). -/
def execLdDE (s : State) : Host.Outcome State Fault Refusal := .next (s.copyReg .d .e)

/-- `LD D,H` (R200). -/
def execLdDH (s : State) : Host.Outcome State Fault Refusal := .next (s.copyReg .d .h)

/-- `LD D,L` (R200). -/
def execLdDL (s : State) : Host.Outcome State Fault Refusal := .next (s.copyReg .d .l)

/-- `LD D,(HL)` (R201). -/
def execLdDIndHl (s : State) : Host.Outcome State Fault Refusal := .next (s.loadReg .d)

/-- `LD D,A` (R200). -/
def execLdDA (s : State) : Host.Outcome State Fault Refusal := .next (s.copyReg .d .a)

/-- `LD E,B` (R200). -/
def execLdEB (s : State) : Host.Outcome State Fault Refusal := .next (s.copyReg .e .b)

/-- `LD E,C` (R200). -/
def execLdEC (s : State) : Host.Outcome State Fault Refusal := .next (s.copyReg .e .c)

/-- `LD E,D` (R200). -/
def execLdED (s : State) : Host.Outcome State Fault Refusal := .next (s.copyReg .e .d)

/-- `LD E,E` (R200). -/
def execLdEE (s : State) : Host.Outcome State Fault Refusal := .next (s.copyReg .e .e)

/-- `LD E,H` (R200). -/
def execLdEH (s : State) : Host.Outcome State Fault Refusal := .next (s.copyReg .e .h)

/-- `LD E,L` (R200). -/
def execLdEL (s : State) : Host.Outcome State Fault Refusal := .next (s.copyReg .e .l)

/-- `LD E,(HL)` (R201). -/
def execLdEIndHl (s : State) : Host.Outcome State Fault Refusal := .next (s.loadReg .e)

/-- `LD E,A` (R200). -/
def execLdEA (s : State) : Host.Outcome State Fault Refusal := .next (s.copyReg .e .a)

/-- `LD H,B` (R200). -/
def execLdHB (s : State) : Host.Outcome State Fault Refusal := .next (s.copyReg .h .b)

/-- `LD H,C` (R200). -/
def execLdHC (s : State) : Host.Outcome State Fault Refusal := .next (s.copyReg .h .c)

/-- `LD H,D` (R200). -/
def execLdHD (s : State) : Host.Outcome State Fault Refusal := .next (s.copyReg .h .d)

/-- `LD H,E` (R200). -/
def execLdHE (s : State) : Host.Outcome State Fault Refusal := .next (s.copyReg .h .e)

/-- `LD H,H` (R200). -/
def execLdHH (s : State) : Host.Outcome State Fault Refusal := .next (s.copyReg .h .h)

/-- `LD H,L` (R200). -/
def execLdHL (s : State) : Host.Outcome State Fault Refusal := .next (s.copyReg .h .l)

/-- `LD H,(HL)` (R201). -/
def execLdHIndHl (s : State) : Host.Outcome State Fault Refusal := .next (s.loadReg .h)

/-- `LD H,A` (R200). -/
def execLdHA (s : State) : Host.Outcome State Fault Refusal := .next (s.copyReg .h .a)

/-- `LD L,B` (R200). -/
def execLdLB (s : State) : Host.Outcome State Fault Refusal := .next (s.copyReg .l .b)

/-- `LD L,C` (R200). -/
def execLdLC (s : State) : Host.Outcome State Fault Refusal := .next (s.copyReg .l .c)

/-- `LD L,D` (R200). -/
def execLdLD (s : State) : Host.Outcome State Fault Refusal := .next (s.copyReg .l .d)

/-- `LD L,E` (R200). -/
def execLdLE (s : State) : Host.Outcome State Fault Refusal := .next (s.copyReg .l .e)

/-- `LD L,H` (R200). -/
def execLdLH (s : State) : Host.Outcome State Fault Refusal := .next (s.copyReg .l .h)

/-- `LD L,L` (R200). -/
def execLdLL (s : State) : Host.Outcome State Fault Refusal := .next (s.copyReg .l .l)

/-- `LD L,(HL)` (R201). -/
def execLdLIndHl (s : State) : Host.Outcome State Fault Refusal := .next (s.loadReg .l)

/-- `LD L,A` (R200). -/
def execLdLA (s : State) : Host.Outcome State Fault Refusal := .next (s.copyReg .l .a)

/-- `LD (HL),B` (R202). -/
def execLdIndHlB (s : State) : Host.Outcome State Fault Refusal := .next (s.storeReg .b)

/-- `LD (HL),C` (R202). -/
def execLdIndHlC (s : State) : Host.Outcome State Fault Refusal := .next (s.storeReg .c)

/-- `LD (HL),D` (R202). -/
def execLdIndHlD (s : State) : Host.Outcome State Fault Refusal := .next (s.storeReg .d)

/-- `LD (HL),E` (R202). -/
def execLdIndHlE (s : State) : Host.Outcome State Fault Refusal := .next (s.storeReg .e)

/-- `LD (HL),H` (R202). -/
def execLdIndHlH (s : State) : Host.Outcome State Fault Refusal := .next (s.storeReg .h)

/-- `LD (HL),L` (R202). -/
def execLdIndHlL (s : State) : Host.Outcome State Fault Refusal := .next (s.storeReg .l)

/-- `LD (HL),A` (R202). -/
def execLdIndHlA (s : State) : Host.Outcome State Fault Refusal := .next (s.storeReg .a)

/-- `LD A,B` (R200). -/
def execLdAB (s : State) : Host.Outcome State Fault Refusal := .next (s.copyReg .a .b)

/-- `LD A,C` (R200). -/
def execLdAC (s : State) : Host.Outcome State Fault Refusal := .next (s.copyReg .a .c)

/-- `LD A,D` (R200). -/
def execLdAD (s : State) : Host.Outcome State Fault Refusal := .next (s.copyReg .a .d)

/-- `LD A,E` (R200). -/
def execLdAE (s : State) : Host.Outcome State Fault Refusal := .next (s.copyReg .a .e)

/-- `LD A,H` (R200). -/
def execLdAH (s : State) : Host.Outcome State Fault Refusal := .next (s.copyReg .a .h)

/-- `LD A,L` (R200). -/
def execLdAL (s : State) : Host.Outcome State Fault Refusal := .next (s.copyReg .a .l)

/-- `LD A,(HL)` (R201). -/
def execLdAIndHl (s : State) : Host.Outcome State Fault Refusal := .next (s.loadReg .a)

/-- `LD A,A` (R200). -/
def execLdAA (s : State) : Host.Outcome State Fault Refusal := .next (s.copyReg .a .a)

/-- `POP BC` (R224). -/
def execPopBc (s : State) : Host.Outcome State Fault Refusal := .next (s.popPair .bc)

/-- `PUSH BC` (R223). -/
def execPushBc (s : State) : Host.Outcome State Fault Refusal := .next (s.pushPair .bc)

/-- `POP DE` (R224). -/
def execPopDe (s : State) : Host.Outcome State Fault Refusal := .next (s.popPair .de)

/-- `PUSH DE` (R223). -/
def execPushDe (s : State) : Host.Outcome State Fault Refusal := .next (s.pushPair .de)

/-- `LDH (a8),A` (R212). -/
def execLdhIndA8A (n : Byte) (s : State) : Host.Outcome State Fault Refusal := .next (s.storeA (highPage n) 12)

/-- `POP HL` (R224). -/
def execPopHl (s : State) : Host.Outcome State Fault Refusal := .next (s.popPair .hl)

/-- `LD (C),A` (R214). -/
def execLdIndCA (s : State) : Host.Outcome State Fault Refusal := .next (s.storeA (highPage s.cpu.c) 8)

/-- `PUSH HL` (R223). -/
def execPushHl (s : State) : Host.Outcome State Fault Refusal := .next (s.pushPair .hl)

/-- `LD (a16),A` (R210). -/
def execLdIndA16A (a : Word) (s : State) : Host.Outcome State Fault Refusal := .next (s.storeA a 16)

/-- `LDH A,(a8)` (R211). -/
def execLdhAIndA8 (n : Byte) (s : State) : Host.Outcome State Fault Refusal := .next (s.loadA (highPage n) 12)

/-- `POP AF` (R225). -/
def execPopAf (s : State) : Host.Outcome State Fault Refusal := .next (s.popPair .af)

/-- `LD A,(C)` (R213). -/
def execLdAIndC (s : State) : Host.Outcome State Fault Refusal := .next (s.loadA (highPage s.cpu.c) 8)

/-- `PUSH AF` (R223). -/
def execPushAf (s : State) : Host.Outcome State Fault Refusal := .next (s.pushPair .af)

/-- `LD HL,SP+e8` (R222). -/
def execLdHlSpE8 (e : Byte) (s : State) : Host.Outcome State Fault Refusal := .next (s.loadHlSp e)

/-- `LD SP,HL` (R221). -/
def execLdSpHl (s : State) : Host.Outcome State Fault Refusal := .next (s.loadSpHl)

/-- `LD A,(a16)` (R209). -/
def execLdAIndA16 (a : Word) (s : State) : Host.Outcome State Fault Refusal := .next (s.loadA a 16)

end Sys2Proof.Machine
end

