-- ==== Sys2Proof/Machine/Misc.lean ====
section
/-!
DEFINITION. Control, suspend and miscellaneous instructions (45_misc.md R330 to R340): the shared operations, then one definition per row of the table.
-/

namespace Sys2Proof.Machine

/-- Nothing but the 4 cycles (R330). -/
def State.nop (s : State) : State := s.withCycles 4

/-- `halt <- 1` (R332). -/
def State.haltCpu (s : State) : State := { s with cpu := { s.cpu with halt := true } }.withCycles 4

/-- `stop <- 1`; the second byte is ignored whatever its value (R333). -/
def State.stopCpu (s : State) (_second : Byte) : State := { s with cpu := { s.cpu with stop := true } }.withCycles 4

/-- `Diag(UnknownOpcode(op, PC - 1))`, nothing else, `ILLEGAL_OP_CYCLES` (R334). -/
def State.illegal (s : State) (op : Byte) : State :=
  (s.addDiag (.unknownOpcode op (s.cpu.pc - 1))).withCycles s.par.illegalOpCycles

/-- `IME <- 0; ime_pending <- 0` (R335). -/
def State.disableInts (s : State) : State := { s with cpu := { s.cpu with ime := false, imePending := false } }.withCycles 4

/-- `if EI_DELAY then ime_pending <- 1 else IME <- 1` (R336). -/
def State.enableInts (s : State) : State :=
  (if s.par.eiDelay then { s with cpu := { s.cpu with imePending := true } }
   else { s with cpu := { s.cpu with ime := true } }).withCycles 4

/-- The decimal adjustment of a with flags N, H, C: the result and the new C (R337). -/
def daaResult (a : Byte) (n h c : Bool) : Byte × Bool :=
  if n = false then
    let hi := decide (c = true ∨ a.toNat > 0x99)
    let lo := decide (h = true ∨ (a &&& 0x0F).toNat > 0x09)
    (a + (if hi then 0x60 else 0) + (if lo then 0x06 else 0), c || hi)
  else (a - (if c then 0x60 else 0) - (if h then 0x06 else 0), c)

/-- DAA: Z from the result, N kept, H cleared (R337). -/
def State.daa (s : State) : State :=
  let r := daaResult s.cpu.a s.cpu.flagN s.cpu.flagH s.cpu.flagC
  ((s.setReg .a r.1).setFlags (decide (r.1 = 0)) s.cpu.flagN false r.2).withCycles 4

/-- `A <- ~A`, N and H set, Z and C kept (R338). -/
def State.cpl (s : State) : State :=
  ((s.setReg .a (~~~s.cpu.a)).setFlags s.cpu.flagZ true true s.cpu.flagC).withCycles 4

/-- C set, N and H cleared, Z kept (R339). -/
def State.scf (s : State) : State := (s.setFlags s.cpu.flagZ false false true).withCycles 4

/-- C complemented, N and H cleared, Z kept (R340). -/
def State.ccf (s : State) : State := (s.setFlags s.cpu.flagZ false false (!s.cpu.flagC)).withCycles 4

/-- `NOP` (R330). -/
def execNop (s : State) : Host.Outcome State Fault Refusal := .next (s.nop)

/-- `STOP` (R333). -/
def execStop (n : Byte) (s : State) : Host.Outcome State Fault Refusal := .next (s.stopCpu n)

/-- `DAA` (R337). -/
def execDaa (s : State) : Host.Outcome State Fault Refusal := .next (s.daa)

/-- `CPL` (R338). -/
def execCpl (s : State) : Host.Outcome State Fault Refusal := .next (s.cpl)

/-- `SCF` (R339). -/
def execScf (s : State) : Host.Outcome State Fault Refusal := .next (s.scf)

/-- `CCF` (R340). -/
def execCcf (s : State) : Host.Outcome State Fault Refusal := .next (s.ccf)

/-- `HALT` (R332). -/
def execHalt (s : State) : Host.Outcome State Fault Refusal := .next (s.haltCpu)

/-- `PREFIX CB` (R331). -/
def execPrefixCb (cb : Byte) (s : State) : Host.Outcome State Fault Refusal := .next (s.cbByte cb)

/-- The illegal byte 0xD3 (R334). -/
def execIllegalD3 (s : State) : Host.Outcome State Fault Refusal := .next (s.illegal 0xD3)

/-- The illegal byte 0xDB (R334). -/
def execIllegalDB (s : State) : Host.Outcome State Fault Refusal := .next (s.illegal 0xDB)

/-- The illegal byte 0xDD (R334). -/
def execIllegalDD (s : State) : Host.Outcome State Fault Refusal := .next (s.illegal 0xDD)

/-- The illegal byte 0xE3 (R334). -/
def execIllegalE3 (s : State) : Host.Outcome State Fault Refusal := .next (s.illegal 0xE3)

/-- The illegal byte 0xE4 (R334). -/
def execIllegalE4 (s : State) : Host.Outcome State Fault Refusal := .next (s.illegal 0xE4)

/-- The illegal byte 0xEB (R334). -/
def execIllegalEB (s : State) : Host.Outcome State Fault Refusal := .next (s.illegal 0xEB)

/-- The illegal byte 0xEC (R334). -/
def execIllegalEC (s : State) : Host.Outcome State Fault Refusal := .next (s.illegal 0xEC)

/-- The illegal byte 0xED (R334). -/
def execIllegalED (s : State) : Host.Outcome State Fault Refusal := .next (s.illegal 0xED)

/-- `DI` (R335). -/
def execDi (s : State) : Host.Outcome State Fault Refusal := .next (s.disableInts)

/-- The illegal byte 0xF4 (R334). -/
def execIllegalF4 (s : State) : Host.Outcome State Fault Refusal := .next (s.illegal 0xF4)

/-- `EI` (R336). -/
def execEi (s : State) : Host.Outcome State Fault Refusal := .next (s.enableInts)

/-- The illegal byte 0xFC (R334). -/
def execIllegalFC (s : State) : Host.Outcome State Fault Refusal := .next (s.illegal 0xFC)

/-- The illegal byte 0xFD (R334). -/
def execIllegalFD (s : State) : Host.Outcome State Fault Refusal := .next (s.illegal 0xFD)

end Sys2Proof.Machine
end

