-- ==== Sys2Proof/Machine/Render.lean ====
section
/-!
DEFINITION. The compositor: one visible line from the PPU registers, VRAM, OAM and the palettes
(60_exceptions.md R451, R460 to R466).
-/

namespace Sys2Proof.Machine

/-- `TilePixel(t, x, y)`, the 2-bit colour index of a pixel of tile t in VRAM bank 0 (60_exceptions.md R451). -/
def tilePixel (p : Ppu) (t x y : Nat) : Nat :=
  let b0 := p.vram0Byte (16 * t + 2 * y)
  let b1 := p.vram0Byte (16 * t + 2 * y + 1)
  2 * (bitOf b1 (7 - x)).toNat + (bitOf b0 (7 - x)).toNat

/-- `SHADE_RGBA[i]` (60_exceptions.md R466, 00_scope.md R9). -/
def shadeRgba (par : Params) : Nat → Rgba
  | 0 => par.shade0
  | 1 => par.shade1
  | 2 => par.shade2
  | _ => par.shade3

/-- The shade of colour index ci in a palette register, `(pal >> (2*ci)) & 0x3` (60_exceptions.md R461, R463). -/
def paletteShade (pal : Byte) (ci : Nat) : Nat := pal.toNat / 4 ^ ci % 4

/-- A 5-bit component as a byte, `(c << 3) | (c >> 2)` (60_exceptions.md R465). -/
def expand5 (c : BitVec 5) : Byte := (c.setWidth 8 <<< 3) ||| (c.setWidth 8 >>> 2)

/-- `RGB555(p, ci)` (60_exceptions.md R465). -/
def rgb555 (q : Ppu) (p ci : Nat) : Rgba :=
  let w := word16 (q.palByte (p * 8 + ci * 2 + 1)) (q.palByte (p * 8 + ci * 2))
  ⟨expand5 (w.extractLsb' 0 5), expand5 (w.extractLsb' 5 5), expand5 (w.extractLsb' 10 5), 0xFF⟩

/-- Whether column x of line ly shows the window (60_exceptions.md R461): `x >= WX - 7` as signed numbers. -/
def windowAt (p : Ppu) (ly x : Nat) : Bool :=
  bitOf p.lcdc 5 && decide (p.wy.toNat ≤ ly) && decide (p.wx.toNat ≤ x + 7)

/-- The map base (as an offset from 0x8000) and the map pixel of a column (60_exceptions.md R461). -/
def mapPixel (p : Ppu) (ly x : Nat) : Nat × Nat × Nat :=
  if windowAt p ly x then
    (if bitOf p.lcdc 6 then 0x1C00 else 0x1800, x + 7 - p.wx.toNat, ly - p.wy.toNat)
  else
    (if bitOf p.lcdc 3 then 0x1C00 else 0x1800, (x + p.scx.toNat) % 256, (ly + p.scy.toNat) % 256)

/-- The tile number of a map index, by LCDC bit 4 (60_exceptions.md R461). -/
def tileNumber (p : Ppu) (idx : Byte) : Nat :=
  if bitOf p.lcdc 4 then idx.toNat
  else if 128 ≤ idx.toNat then idx.toNat else 256 + idx.toNat

/-- The background/window colour index and pixel of column x of line ly (60_exceptions.md R461). -/
def bgColumn (par : Params) (p : Ppu) (ly x : Nat) : Nat × Rgba :=
  if bitOf p.lcdc 0 = false then (0, shadeRgba par 0)
  else
    let m := mapPixel p ly x
    let off := m.1 + m.2.2 / 8 * 32 + m.2.1 / 8
    let ci := tilePixel p (tileNumber p (p.vram0Byte off)) (m.2.1 % 8) (m.2.2 % 8)
    (ci, if par.colorMode then rgb555 p (p.vram1Byte off &&& 0x07).toNat ci
         else shadeRgba par (paletteShade p.bgp ci))

/-- The height of an object (60_exceptions.md R462). -/
def spriteHeight (p : Ppu) : Nat := if bitOf p.lcdc 2 then 16 else 8

/-- Whether OAM entry n covers line ly, `Y - 16 <= ly < Y - 16 + h` as signed numbers (60_exceptions.md R462). -/
def spriteCovers (p : Ppu) (ly n : Nat) : Bool :=
  let y := (p.oamByte (4 * n)).toNat
  decide (y ≤ ly + 16) && decide (ly + 16 < y + spriteHeight p)

/-- The tile and the tile row of a covering OAM entry on line ly (60_exceptions.md R463). -/
def spriteTileRow (p : Ppu) (ly n : Nat) : Nat × Nat :=
  let h := spriteHeight p
  let tile := p.oamByte (4 * n + 2)
  let row0 := ly + 16 - (p.oamByte (4 * n)).toNat
  let row := if bitOf (p.oamByte (4 * n + 3)) 6 then h - 1 - row0 else row0
  (if h = 16 then (if row < 8 then (tile &&& 0xFE).toNat else (tile ||| 0x01).toNat) else tile.toNat, row % 8)

/-- Paint column col of a covering OAM entry over a row (60_exceptions.md R463). -/
def paintSpriteColumn (par : Params) (p : Ppu) (bgci : List Nat) (ly n : Nat) (row : List Rgba) (col : Nat) : List Rgba :=
  let x8 := (p.oamByte (4 * n + 1)).toNat + col
  if x8 < 8 ∨ 167 < x8 then row
  else
    let x := x8 - 8
    let attr := p.oamByte (4 * n + 3)
    let t := spriteTileRow p ly n
    let ci := tilePixel p t.1 (if bitOf attr 5 then 7 - col else col) t.2
    if ci = 0 then row
    else if bitOf attr 7 = true ∧ bgci.getD x 0 ≠ 0 then row
    else row.set x (shadeRgba par (paletteShade (if bitOf attr 4 then p.obp1 else p.obp0) ci))

/-- Paint OAM entry n over a row if it covers the line (60_exceptions.md R462, R463). -/
def paintSprite (par : Params) (p : Ppu) (bgci : List Nat) (ly : Nat) (row : List Rgba) (n : Nat) : List Rgba :=
  if spriteCovers p ly n then (List.range 8).foldl (paintSpriteColumn par p bgci ly n) row else row

/-- `RenderLine(ly)`: the 160 pixels of a line; sprites are painted in the order 39, 38, ..., 0 (60_exceptions.md R460, R462). -/
def renderRow (par : Params) (p : Ppu) (ly : Nat) : List Rgba :=
  let bg := (List.range 160).map (bgColumn par p ly)
  let row := bg.map Prod.snd
  if bitOf p.lcdc 1 then (List.range 40).reverse.foldl (paintSprite par p (bg.map Prod.fst) ly) row else row

/-- Replace or list a row of the framebuffer, lines strictly rising. -/
def putRow : List (Nat × List Rgba) → Nat → List Rgba → List (Nat × List Rgba)
  | [], y, r => [(y, r)]
  | (k, q) :: m, y, r =>
    if y < k then (y, r) :: (k, q) :: m
    else if y = k then (y, r) :: m
    else (k, q) :: putRow m y r

/-- A row of the framebuffer, if it has been rendered. -/
def getRow : List (Nat × List Rgba) → Nat → Option (List Rgba)
  | [], _ => none
  | (k, q) :: m, y => if y = k then some q else getRow m y

/-- `RenderLine(ly)` into the framebuffer (60_exceptions.md R460, R466). -/
def State.renderLine (s : State) (ly : Nat) : State :=
  { s with ppu := { s.ppu with fb := putRow s.ppu.fb ly (renderRow s.par s.ppu ly) } }

/-- A pixel of the framebuffer: a draw until its row is rendered (60_exceptions.md R466, log entry 7). -/
def Ppu.pixel (p : Ppu) (y x : Nat) : Rgba :=
  match getRow p.fb y with
  | some r => r.getD x (Config.initPixel y x)
  | none => Config.initPixel y x

end Sys2Proof.Machine
end

