-- ==== Sys2Proof/Machine/Ppu.lean ====
section
/-!
DEFINITION. The PPU's scanline state machine (60_exceptions.md R455 to R458).
-/

namespace Sys2Proof.Machine

/-- `Mode(ly, d)` (60_exceptions.md R455). -/
def ppuMode (ly d : Nat) : Nat :=
  if 144 ≤ ly then 1 else if d < 80 then 2 else if d < 252 then 3 else 0

/-- The stored mode, `STAT[1:0]` (60_exceptions.md R455). -/
def Ppu.mode (p : Ppu) : Nat := p.stat.toNat % 4

/-- `mode <- m`. -/
def State.setMode (s : State) (m : Nat) : State :=
  { s with ppu := { s.ppu with stat := (s.ppu.stat &&& 0xFC) ||| BitVec.ofNat 8 (m % 4) } }

/-- Request the LCD interrupt if a STAT enable bit is set. -/
def State.lcdIrqIf (s : State) (bit : Nat) : State := if bitOf s.ppu.stat bit then s.requestIrq 1 else s

/-- The start of a line: `dot` 0, LY advanced modulo 154 and compared with LYC (60_exceptions.md R455). -/
def State.nextLine (s : State) : State :=
  let s := { s with ppu := { s.ppu with dot := 0, ly := BitVec.ofNat 8 ((s.ppu.ly.toNat + 1) % 154) } }
  if s.ppu.ly = s.ppu.lyc then
    { s with ppu := { s.ppu with stat := withBit s.ppu.stat 2 } }.lcdIrqIf 6
  else { s with ppu := { s.ppu with stat := withoutBit s.ppu.stat 2 } }

/-- Entering mode m: h-blank renders the line, v-blank requests V-Blank, and each of modes 0, 1, 2 requests the LCD
interrupt under its STAT bit (60_exceptions.md R455, R457). -/
def State.enterMode (s : State) (m : Nat) : State :=
  let s := s.setMode m
  match m with
  | 0 => (s.renderLine s.ppu.ly.toNat).lcdIrqIf 3
  | 1 => (s.requestIrq 0).lcdIrqIf 4
  | 2 => s.lcdIrqIf 5
  | _ => s

/-- `PPUTick()` (60_exceptions.md R455). -/
def State.ppuTick (s : State) : State :=
  let s := { s with ppu := { s.ppu with dot := s.ppu.dot + 1 } }
  let s := if s.ppu.dot = 456 then s.nextLine else s
  let m := ppuMode s.ppu.ly.toNat s.ppu.dot
  if m ≠ s.ppu.mode then s.enterMode m else s

/-- c ticks. -/
def State.ppuTicks : Nat → State → State
  | 0, s => s
  | c + 1, s => State.ppuTicks c s.ppuTick

/-- `PPUUpdate(c)` (60_exceptions.md R455, R456). -/
def State.ppuUpdate (s : State) (c : Nat) : State :=
  if bitOf s.ppu.lcdc 7 = false then
    let s := s.setMode 0
    { s with ppu := { s.ppu with ly := 0, dot := 0 } }
  else State.ppuTicks c s

end Sys2Proof.Machine
end

