-- ==== Sys2Proof/Machine/Timer.lean ====
section
/-!
DEFINITION. The timer's update (60_exceptions.md R432, R433).
-/

namespace Sys2Proof.Machine

/-- The TIMA threshold of a clock select (60_exceptions.md R432, 10_state.md R50). -/
def timaThreshold (tac : BitVec 3) : Nat :=
  if tac.getLsbD 1 then (if tac.getLsbD 0 then 256 else 64)
  else (if tac.getLsbD 0 then 16 else 1024)

/-- One TIMA increment: past 0xFF it reloads from TMA and requests the Timer interrupt (60_exceptions.md R432, R433). -/
def State.timaTick (s : State) : State :=
  if s.timer.tima = 0xFF then { s with timer := { s.timer with tima := s.timer.tma } }.requestIrq 2
  else { s with timer := { s.timer with tima := s.timer.tima + 1 } }

/-- n TIMA increments. -/
def State.timaTicks : Nat → State → State
  | 0, s => s
  | n + 1, s => State.timaTicks n s.timaTick

/-- The divider's part of `TimerUpdate(c)`: its loop subtracts 256 once per DIV increment, written as quotient and
remainder (60_exceptions.md R432, log entry 13). -/
def State.dividerUpdate (s : State) (c : Nat) : State :=
  let n := s.timer.divCounter + c
  { s with timer := { s.timer with divCounter := n % 256, div := s.timer.div + BitVec.ofNat 8 (n / 256) } }

/-- TIMA's part of `TimerUpdate(c)`: its loop runs once per whole threshold (60_exceptions.md R432, log entry 13). -/
def State.timaUpdate (s : State) (c : Nat) : State :=
  if s.timer.tac.getLsbD 2 then
    let th := timaThreshold s.timer.tac
    let n := s.timer.timaCounter + c
    State.timaTicks (n / th) { s with timer := { s.timer with timaCounter := n % th } }
  else s

/-- `TimerUpdate(c)` (60_exceptions.md R432). -/
def State.timerUpdate (s : State) (c : Nat) : State := (s.dividerUpdate c).timaUpdate c

end Sys2Proof.Machine
end

