-- ==== Sys2Proof/Machine/System.lean ====
section
/-!
DEFINITION. What the system step does around an instruction (60_exceptions.md R400, R401; 70_reset_and_hazards.md R505): the boot
overlay's end, the fetch, the idle step, the devices' advance, the interrupt check and EI's delayed effect; and
placing an instruction where the next fetch reads it.
-/

namespace Sys2Proof.Machine

/-- The boot overlay ends at the first step that begins with PC >= 0x0100 (20_memory.md R88, 60_exceptions.md R400). -/
def State.beginStep (s : State) : State :=
  if s.booting ∧ 0x0100 ≤ s.cpu.pc.toNat then { s with booting := false } else s

/-- Whether a step fetches nothing (60_exceptions.md R401). -/
def State.suspended (s : State) : Bool := s.cpu.halt || s.stopped

/-- The three bytes at PC, the most an instruction takes; reading one too many changes nothing, since no read changes the
state (20_memory.md R81, R85; 30_encoding.md R150; log entry 14). -/
def State.fetchBytes (s : State) : List Byte :=
  [s.memRead s.cpu.pc, s.memRead (s.cpu.pc + 1), s.memRead (s.cpu.pc + 2)]

/-- Fetch and decode the instruction at PC; PC ends just past it (60_exceptions.md R400, 00_scope.md R15). -/
def State.fetch (s : State) : Except DecodeError (Instr × State) :=
  match decode s.fetchBytes with
  | .ok (i, rest) => .ok (i, s.setPc (s.cpu.pc + BitVec.ofNat 16 (3 - rest.length)))
  | .error e => .error e

/-- The idle step (60_exceptions.md R401). -/
def State.idle (s : State) : State := s.withCycles s.par.haltIdleCycles

/-- `PPUUpdate(c); TimerUpdate(c)` (70_reset_and_hazards.md R505). -/
def State.devicesUpdate (s : State) (c : Nat) : State := (s.ppuUpdate c).timerUpdate c

/-- `if ime_pending = 1 then (IME <- 1; ime_pending <- 0)` (70_reset_and_hazards.md R505, R511). -/
def State.promoteIme (s : State) : State :=
  if s.cpu.imePending then { s with cpu := { s.cpu with ime := true, imePending := false } } else s

/-- The system step after `Step()` has returned its cycles (in `stepCycles`): devices, interrupt check, its cycles to
the devices, EI's effect, the counters (70_reset_and_hazards.md R505). -/
def State.finishStep (s : State) : State :=
  let c := s.stepCycles
  let r := (s.devicesUpdate c).handleInterrupts
  let t := if 0 < r.2 then r.1.devicesUpdate r.2 else r.1
  { t.promoteIme with stepCycles := c + r.2, totalCycles := s.totalCycles + c + r.2 }

/-! ### Placing an instruction for the next fetch (log entry 5) -/

/-- Whether a byte can be placed where a fetch of address a reads it: cartridge bytes and plain RAM. -/
def State.canPlace (s : State) (a : Word) : Bool :=
  match s.owner a with
  | .rom0 => decide (a.toNat < s.cart.rom.size)
  | .romX => decide (windowOffset s.cart a.toNat < s.cart.rom.size)
  | .ram => true
  | _ => false

/-- Place a byte where a fetch of address a reads it. -/
def State.placeByte (s : State) (a : Word) (v : Byte) : State :=
  match s.owner a with
  | .rom0 => { s with cart := { s.cart with rom := s.cart.rom.store a.toNat v } }
  | .romX => { s with cart := { s.cart with rom := s.cart.rom.store (windowOffset s.cart a.toNat) v } }
  | .ram => s.setRam a.toNat v
  | _ => s

/-- Place bytes at rising addresses. -/
def State.placeFrom : List Byte → Word → State → State
  | [], _, s => s
  | v :: vs, a, s => State.placeFrom vs (a + 1) (s.placeByte a v)

/-- Place an instruction's bytes where the next step fetches: at PC, or at 0xC000 with PC moved there when PC lies where no
byte can be placed (an I/O register, the boot overlay, VRAM, OAM, external RAM); a suspended CPU is resumed, since it would
fetch nothing. -/
def State.placeBytes (s : State) (bytes : List Byte) : State :=
  let s := { s with cpu := { s.cpu with halt := false, stop := false } }.beginStep
  if s.canPlace s.cpu.pc && s.canPlace (s.cpu.pc + 1) && s.canPlace (s.cpu.pc + 2) then
    State.placeFrom bytes s.cpu.pc s
  else State.placeFrom bytes 0xC000 (s.setPc 0xC000)

end Sys2Proof.Machine
end

