-- ==== Sys2Proof/Machine/Step.lean ====
section
/-!
DEFINITION. One system step (70_reset_and_hazards.md R505), and a state with an instruction placed for the next fetch.
-/

namespace Sys2Proof.Machine

/-- `SystemStep()` (70_reset_and_hazards.md R505) with `Step()` of 60_exceptions.md R400. -/
def step (s : State) : Host.Outcome State Fault Refusal :=
  let s := s.beginStep
  if s.suspended then .next s.idle.finishStep
  else
    match s.fetch with
    | .error e => .refused (.undecodable e)
    | .ok (i, s) =>
      match exec i s with
      | .next t => .next t.finishStep
      | .fault r => .fault r
      | .refused r => .refused r

/-- The state with the instruction of an opcode-table word placed where the next step fetches it (log entries 5, 10). -/
def State.withFetchWord (s : State) (nbits w : Nat) : State := s.placeBytes (tableBytes nbits w)

end Sys2Proof.Machine
end

