-- ==== Sys2Proof/Machine/HostMoves.lean ====
section
/-!
DEFINITION. The host's moves other than the step (60_exceptions.md R470, R437). They happen only between system steps; no step
makes one (log entry 15).
-/

namespace Sys2Proof.Machine

/-- The eight keys (60_exceptions.md R437, 10_state.md R51). -/
inductive Key where
  | right
  | left
  | up
  | down
  | a
  | b
  | select
  | start
  deriving DecidableEq, Repr

/-- A 4-bit mask with bit i set or cleared. -/
def maskWith (m : BitVec 4) (i : Nat) (v : Bool) : BitVec 4 := if v then m ||| (1#4 <<< i) else m &&& ~~~(1#4 <<< i)

/-- The mask bit of a key set to v (60_exceptions.md R437). -/
def Joypad.withKey (j : Joypad) (v : Bool) : Key → Joypad
  | .right => { j with dirMask := maskWith j.dirMask 0 v }
  | .left => { j with dirMask := maskWith j.dirMask 1 v }
  | .up => { j with dirMask := maskWith j.dirMask 2 v }
  | .down => { j with dirMask := maskWith j.dirMask 3 v }
  | .a => { j with btnMask := maskWith j.btnMask 0 v }
  | .b => { j with btnMask := maskWith j.btnMask 1 v }
  | .select => { j with btnMask := maskWith j.btnMask 2 v }
  | .start => { j with btnMask := maskWith j.btnMask 3 v }

/-- `KeyPress(k)`: mask bit 0, the Joypad interrupt requested, `stop` cleared (60_exceptions.md R437). -/
def State.keyPress (s : State) (k : Key) : State :=
  let s := { s with joy := s.joy.withKey false k }.requestIrq 4
  { s with cpu := { s.cpu with stop := false } }

/-- `KeyRelease(k)`: mask bit 1, IF bit 4 cleared (60_exceptions.md R437). -/
def State.keyRelease (s : State) (k : Key) : State :=
  { s with joy := s.joy.withKey true k, iflag := s.iflag &&& ~~~0x10 }

/-- `LoadCart(bytes)` under given parameters: reset, refusing a cartridge shorter than 0x150 bytes (60_exceptions.md R470,
70_reset_and_hazards.md R500; 00_scope.md R9). -/
def loadCart (p : Params) (rom : Rom) : Except Refusal State :=
  if rom.size < 0x150 then .error (.cartTooShort rom.size) else .ok (State.resetWith p rom)

/-- `ReadPC()` (60_exceptions.md R470). -/
def State.readPc (s : State) : Word := s.cpu.pc

/-- What `DumpRegs()` gives (60_exceptions.md R470). -/
structure RegDump where
  a : Byte
  f : Byte
  b : Byte
  c : Byte
  d : Byte
  e : Byte
  h : Byte
  l : Byte
  sp : Word
  pc : Word
  ime : Bool
  halt : Bool
  stop : Bool
  deriving DecidableEq, Repr

/-- `DumpRegs()` (60_exceptions.md R470). -/
def State.dumpRegs (s : State) : RegDump :=
  { a := s.cpu.a, f := s.cpu.f, b := s.cpu.b, c := s.cpu.c, d := s.cpu.d, e := s.cpu.e, h := s.cpu.h, l := s.cpu.l,
    sp := s.cpu.sp, pc := s.cpu.pc, ime := s.cpu.ime, halt := s.cpu.halt, stop := s.cpu.stop }

/-- The four bytes of a pixel, in the order R, G, B, A (60_exceptions.md R466). -/
def rgbaBytes (q : Rgba) : List Byte := [q.r, q.g, q.b, q.a]

/-- `ReadFramebuffer()`: the 92,160 bytes, row-major from the top-left pixel (60_exceptions.md R466, R470). -/
def State.readFramebuffer (s : State) : List Byte :=
  (List.range 144).flatMap fun y => (List.range 160).flatMap fun x => rgbaBytes (s.ppu.pixel y x)

/-- `ReadDiag()` (60_exceptions.md R470). -/
def State.readDiag (s : State) : List DiagEvent := s.diag

end Sys2Proof.Machine
end

