-- ==== Sys2Proof/Safety.lean ====
section
/-!
DEFINITION. What a state of a run satisfies: the canonical form of its memories, the invariants of 10_state.md R54, the
controller's own invariants, and the end of a run (70_reset_and_hazards.md R520).
-/

namespace Sys2Proof.Machine

/-- The canonical form of a framebuffer: lines strictly rising and below 144, each row 160 pixels long. -/
def rowsWf : List (Nat × List Rgba) → Bool
  | [] => true
  | (y, r) :: m => decide (y < 144) && decide (r.length = 160) && m.all (fun q => decide (y < q.1)) && rowsWf m

/-- Every memory of the state is in its canonical form, so that equal memories are equal data. -/
structure State.MemWf (s : State) : Prop where
  mem : Mem.wf 0x10000 memDefault s.mem = true
  vram0 : Mem.wf 0x2000 noDefault s.ppu.vram0 = true
  vram1 : Mem.wf 0x2000 noDefault s.ppu.vram1 = true
  oam : Mem.wf 0xA0 noDefault s.ppu.oam = true
  bgPal : Mem.wf 0x40 noDefault s.ppu.bgPal = true
  extRam : Mem.wf 0x20000 noDefault s.cart.extRam = true
  fb : rowsWf s.ppu.fb = true

/-- The invariants of 10_state.md R54, with the stored forms of STAT, BCPS and the two timer sub-counters; `ram_bank` in
0..15 and the four modes hold by their types. -/
structure State.RegWf (s : State) : Prop where
  /-- `F[3:0] = 0` (R33, R54) -/
  flags : s.cpu.f &&& 0x0F = 0
  /-- LY in 0..153 (R54) -/
  ly : s.ppu.ly.toNat < 154
  /-- `dot` in 0..455 (R54) -/
  dot : s.ppu.dot < 456
  /-- `rom_bank` is never 0 (R54) -/
  romBank : s.cart.romBank ≠ 0
  /-- `IF[7:5] = 0b111` (R54) -/
  iflag : s.iflag &&& 0xE0 = 0xE0
  /-- STAT bit 7 is 1 (R47) -/
  stat : bitOf s.ppu.stat 7 = true
  /-- BCPS bit 6 is stored as 0 and reads 1 (R47, 60_exceptions.md R444) -/
  bcps : bitOf s.ppu.bcps 6 = false
  /-- `div_counter` is below 256 between updates (60_exceptions.md R432) -/
  divCounter : s.timer.divCounter < 256
  /-- `tima_counter` is below the largest threshold between updates (60_exceptions.md R432) -/
  timaCounter : s.timer.timaCounter < 1024

/-- What the controller's registers keep, by kind (20_memory.md R100 to R116). -/
def Cart.Inv (c : Cart) : Prop :=
  match c.ctype with
  | .romOnly =>
    c.romBank = 1 ∧ c.ramBank = 0 ∧ c.ramEnabled = false ∧ c.bankMode = false ∧ c.rtcEnabled = false ∧ c.rtcSelect = none
  | .mbc1 =>
    c.romBank.toNat < 128 ∧ c.romBank.toNat % 32 ≠ 0 ∧ c.ramBank.toNat < 4 ∧ (c.bankMode = false → c.ramBank = 0) ∧
      c.rtcEnabled = false ∧ c.rtcSelect = none
  | .mbc2 =>
    c.romBank.toNat < 16 ∧ c.romBank ≠ 0 ∧ c.ramBank = 0 ∧ c.bankMode = false ∧ c.rtcEnabled = false ∧ c.rtcSelect = none
  | .mbc3 =>
    c.romBank.toNat < 128 ∧ c.romBank ≠ 0 ∧ c.ramBank.toNat < 8 ∧ c.bankMode = false ∧ c.rtcEnabled = c.ramEnabled
  | .mbc5 => c.romBank ≠ 0 ∧ c.bankMode = false ∧ c.rtcEnabled = false ∧ c.rtcSelect = none

/-- The invariant of every run: each step keeps it from every state that has it. -/
structure State.Inv (s : State) : Prop where
  memories : s.MemWf
  registers : s.RegWf
  controller : s.cart.Inv

/-- The end of a run: `halt` = 1 and `IE & 0x1F` = 0 (70_reset_and_hazards.md R520). -/
def State.ended (s : State) : Bool := s.cpu.halt && decide (s.ie &&& 0x1F = 0)

end Sys2Proof.Machine
end

