-- ==== Sys2Proof/Certificates/Slice0/Obligations.lean ====
section
/-!
DEFINITION. The statements for the provers, drawn from the spec's numbered rules, and the terms of the spec they are written in
(operand codes, results and flags in exact natural numbers). Every effect of an instruction is stated as one equation: `exec`
answers a next state that is the old state with exactly the named fields replaced, so that it says where the instruction
completes, what it writes and what it leaves unchanged. `{ s with ... }` leaves every other field of s as it was.
-/

namespace Sys2Proof.Claims

open Sys2Proof Sys2Proof.Machine

/-! ### Codes and bytes of 30_encoding.md -/

/-- A number as a byte. -/
def byte (n : Nat) : Byte := BitVec.ofNat 8 n

/-- The r8 code of a register (30_encoding.md R152). -/
def regCode : Reg8 → Nat
  | .b => 0 | .c => 1 | .d => 2 | .e => 3 | .h => 4 | .l => 5 | .a => 7

/-- The r8 code of an operand (30_encoding.md R152). -/
def r8Code : R8 → Nat
  | .b => 0 | .c => 1 | .d => 2 | .e => 3 | .h => 4 | .l => 5 | .indHl => 6 | .a => 7

/-- The register an r8 operand names, if it is one (30_encoding.md R152). -/
def regOf : R8 → Option Reg8
  | .b => some .b | .c => some .c | .d => some .d | .e => some .e | .h => some .h | .l => some .l | .indHl => none | .a => some .a

/-- The r16 code (30_encoding.md R153). -/
def pairCode : R16 → Nat
  | .bc => 0 | .de => 1 | .hl => 2 | .sp => 3

/-- The r16stk code (30_encoding.md R154). -/
def stkCode : R16Stk → Nat
  | .bc => 0 | .de => 1 | .hl => 2 | .af => 3

/-- The condition code (30_encoding.md R155). -/
def ccCode : Cond → Nat
  | .nz => 0 | .z => 1 | .nc => 2 | .c => 3

/-- The ALU operation code (30_encoding.md R156). -/
def aluCode : AluOp → Nat
  | .add => 0 | .adc => 1 | .sub => 2 | .sbc => 3 | .and => 4 | .xor => 5 | .or => 6 | .cp => 7

/-- The CB rotate/shift code (30_encoding.md R157). -/
def rotCode : RotOp → Nat
  | .rlc => 0 | .rrc => 1 | .rl => 2 | .rr => 3 | .sla => 4 | .sra => 5 | .swap => 6 | .srl => 7

/-! ### Operands and flags -/

/-- `H:L` (10_state.md R31). -/
def hlOf (c : Cpu) : Word := c.h ++ c.l

/-- The value of an r8 operand: a register, or the byte MemRead gives at HL (00_scope.md R11). -/
def operand (s : State) (x : R8) : Byte :=
  match regOf x with
  | some r => s.cpu.reg r
  | none => s.memRead (hlOf s.cpu)

/-- The state after writing an r8 operand: a register, or the byte at HL through MemWrite (00_scope.md R11). -/
def withOperand (s : State) (x : R8) (v : Byte) : State :=
  match regOf x with
  | some r => { s with cpu := s.cpu.setReg v r }
  | none => s.memWrite (hlOf s.cpu) v

/-- The byte F with the given flags: bit 7 Z, bit 6 N, bit 5 H, bit 4 C, bits 3-0 zero (10_state.md R33). -/
def flags (z n h c : Bool) : Byte := byte (128 * z.toNat + 64 * n.toNat + 32 * h.toNat + 16 * c.toNat)

/-- `F.Z` as bit 7 of F, in arithmetic (10_state.md R33). -/
def zOf (c : Cpu) : Bool := decide (c.f.toNat / 128 % 2 = 1)

/-- `F.N` as bit 6 of F. -/
def nOf (c : Cpu) : Bool := decide (c.f.toNat / 64 % 2 = 1)

/-- `F.H` as bit 5 of F. -/
def hOf (c : Cpu) : Bool := decide (c.f.toNat / 32 % 2 = 1)

/-- `F.C` as bit 4 of F. -/
def cOf (c : Cpu) : Bool := decide (c.f.toNat / 16 % 2 = 1)

/-- `Cond(cc)` (44_control.md R310). -/
def condHolds (c : Cpu) : Cond → Bool
  | .nz => !zOf c | .z => zOf c | .nc => !cOf c | .c => cOf c

/-! ### Results in exact numbers -/

/-- The 8-bit result of an ALU operation on a, b and carry-in c (41_alu8.md R240 to R247). -/
def aluResult : AluOp → Nat → Nat → Nat → Nat
  | .add, a, b, _ => (a + b) % 256
  | .adc, a, b, c => (a + b + c) % 256
  | .sub, a, b, _ => (a + 256 - b) % 256
  | .sbc, a, b, c => (a + 512 - b - c) % 256
  | .and, a, b, _ => a &&& b
  | .xor, a, b, _ => a ^^^ b
  | .or, a, b, _ => a ||| b
  | .cp, a, b, _ => (a + 256 - b) % 256

/-- N after an ALU operation (41_alu8.md R240 to R247). -/
def aluN : AluOp → Bool
  | .sub | .sbc | .cp => true
  | .add | .adc | .and | .xor | .or => false

/-- H after an ALU operation (00_scope.md R14; 41_alu8.md R240 to R247). -/
def aluH : AluOp → Nat → Nat → Nat → Bool
  | .add, a, b, _ => decide (a % 16 + b % 16 > 15)
  | .adc, a, b, c => decide (a % 16 + b % 16 + c > 15)
  | .sub, a, b, _ => decide (a % 16 < b % 16)
  | .sbc, a, b, c => decide (a % 16 < b % 16 + c)
  | .and, _, _, _ => true
  | .xor, _, _, _ => false
  | .or, _, _, _ => false
  | .cp, a, b, _ => decide (a % 16 < b % 16)

/-- C after an ALU operation (00_scope.md R14; 41_alu8.md R240 to R247). -/
def aluC : AluOp → Nat → Nat → Nat → Bool
  | .add, a, b, _ => decide (a + b > 255)
  | .adc, a, b, c => decide (a + b + c > 255)
  | .sub, a, b, _ => decide (a < b)
  | .sbc, a, b, c => decide (a < b + c)
  | .and, _, _, _ => false
  | .xor, _, _, _ => false
  | .or, _, _, _ => false
  | .cp, a, b, _ => decide (a < b)

/-- The CPU after an ALU operation: A is the result (CP does not write A), F the four flags, nothing else. -/
def aluCpu (o : AluOp) (c : Cpu) (b : Byte) : Cpu :=
  let cin := (cOf c).toNat
  let r := aluResult o c.a.toNat b.toNat cin
  { c with
    a := if o = .cp then c.a else byte r
    f := flags (decide (r = 0)) (aluN o) (aluH o c.a.toNat b.toNat cin) (aluC o c.a.toNat b.toNat cin) }

/-- The result of a rotate or shift of v with carry-in c (43_rotate_shift_bit.md R280 to R291). -/
def rotValue : RotOp → Nat → Nat → Nat
  | .rlc, v, _ => v * 2 % 256 + v / 128
  | .rrc, v, _ => v / 2 + 128 * (v % 2)
  | .rl, v, c => v * 2 % 256 + c
  | .rr, v, c => v / 2 + 128 * c
  | .sla, v, _ => v * 2 % 256
  | .sra, v, _ => v / 2 + v / 128 * 128
  | .swap, v, _ => v % 16 * 16 + v / 16
  | .srl, v, _ => v / 2

/-- The carry out of a rotate or shift of v (43_rotate_shift_bit.md R280 to R291). -/
def rotCarry : RotOp → Nat → Bool
  | .rlc, v => decide (v / 128 = 1)
  | .rrc, v => decide (v % 2 = 1)
  | .rl, v => decide (v / 128 = 1)
  | .rr, v => decide (v % 2 = 1)
  | .sla, v => decide (v / 128 = 1)
  | .sra, v => decide (v % 2 = 1)
  | .swap, _ => false
  | .srl, v => decide (v % 2 = 1)

/-- `(x + sext_16(e)) mod 2^16` (00_scope.md R12). -/
def plusSigned (x : Word) (e : Byte) : Word := BitVec.ofInt 16 (x.toNat + e.toInt)

/-- The 8-bit parts of a 16-bit value (10_state.md R31). -/
def highPart (v : Word) : Byte := byte (v.toNat / 256)

/-- The low 8 bits of a 16-bit value (10_state.md R31). -/
def lowPart (v : Word) : Byte := byte (v.toNat % 256)

/-- The CPU with a pair replaced: the high register takes v[15:8], the low one v[7:0] (10_state.md R31). -/
def withPair (c : Cpu) (v : Word) : R16 → Cpu
  | .bc => { c with b := highPart v, c := lowPart v }
  | .de => { c with d := highPart v, e := lowPart v }
  | .hl => { c with h := highPart v, l := lowPart v }
  | .sp => { c with sp := v }

/-- The value of a pair (10_state.md R31). -/
def pairValue (c : Cpu) : R16 → Word
  | .bc => c.b ++ c.c | .de => c.d ++ c.e | .hl => c.h ++ c.l | .sp => c.sp

/-- The value of a stack pair (10_state.md R31). -/
def stkValue (c : Cpu) : R16Stk → Word
  | .bc => c.b ++ c.c | .de => c.d ++ c.e | .hl => c.h ++ c.l | .af => c.a ++ c.f

/-- The CPU with a stack pair replaced: F takes only the high nibble of the low byte (10_state.md R31, R33). -/
def withStk (c : Cpu) (v : Word) : R16Stk → Cpu
  | .bc => { c with b := highPart v, c := lowPart v }
  | .de => { c with d := highPart v, e := lowPart v }
  | .hl => { c with h := highPart v, l := lowPart v }
  | .af => { c with a := highPart v, f := byte (v.toNat % 256 / 16 * 16) }

/-- The memory side of `Push16(v)`: the high byte at SP - 1, then the low byte at SP - 2 (00_scope.md R12, 20_memory.md R82). -/
def pushed (s : State) (v : Word) : State := (s.memWrite (s.cpu.sp - 1) (highPart v)).memWrite (s.cpu.sp - 2) (lowPart v)

/-- The value `Pop16()` returns: the low byte at SP, the high byte at SP + 1 (00_scope.md R12). -/
def popped (s : State) : Word := s.memRead (s.cpu.sp + 1) ++ s.memRead s.cpu.sp

end Sys2Proof.Claims

open Sys2Proof Sys2Proof.Machine Sys2Proof.Claims

/-! ### Loads, stores and the stack (40_loads.md) -/

/-- R200, R201, R203: `LD rd,rs` (the 49 constructors ldBB to ldAA), `LD rd,(HL)` (ldBIndHl to ldAIndHl, seven) and `LD rd,d8`
(ldBD8, ldCD8, ldDD8, ldED8, ldHD8, ldLD8, ldAD8) load the destination register and change nothing else but the cycle count. -/
def Obligations.LoadsIntoAnEightBitRegister : Prop :=
  ∀ (rd rs : Reg8) (x : R8) (n : Byte) (s : State),
    (encode (.ldReg rd rs) = [byte (0x40 + 8 * regCode rd + regCode rs)] ∧
      exec (.ldReg rd rs) s = .next { s with cpu := s.cpu.setReg (s.cpu.reg rs) rd, stepCycles := 4 }) ∧
    (encode (.ldRegHl rd) = [byte (0x46 + 8 * regCode rd)] ∧
      exec (.ldRegHl rd) s = .next { s with cpu := s.cpu.setReg (s.memRead (hlOf s.cpu)) rd, stepCycles := 8 }) ∧
    (regOf x = some rd → encode (.ldImm8 x n) = [byte (0x06 + 8 * regCode rd), n] ∧
      exec (.ldImm8 x n) s = .next { s with cpu := s.cpu.setReg n rd, stepCycles := 8 })

/-- R202, R204: `LD (HL),rs` (ldIndHlB, ldIndHlC, ldIndHlD, ldIndHlE, ldIndHlH, ldIndHlL, ldIndHlA) and `LD (HL),d8` (ldIndHlD8)
write one byte at HL through MemWrite and change nothing else but the cycle count. -/
def Obligations.StoresAtHl : Prop :=
  ∀ (rs : Reg8) (n : Byte) (s : State),
    (encode (.ldHlReg rs) = [byte (0x70 + regCode rs)] ∧
      exec (.ldHlReg rs) s = .next { s.memWrite (hlOf s.cpu) (s.cpu.reg rs) with stepCycles := 8 }) ∧
    (encode (.ldIndHlD8 n) = [0x36, n] ∧
      exec (.ldIndHlD8 n) s = .next { s.memWrite (hlOf s.cpu) n with stepCycles := 12 })

/-- R205, R206, R209, R211, R213: `LD A,(BC)` (ldAIndBc), `LD A,(DE)` (ldAIndDe), `LD A,(a16)` (ldAIndA16), `LDH A,(a8)`
(ldhAIndA8) and `LD A,(C)` (ldAIndC) load A with the byte at their address and change nothing else but the cycle count. -/
def Obligations.LoadsIntoTheAccumulator : Prop :=
  ∀ (a : Word) (n : Byte) (s : State),
    (encode .ldAIndBc = [0x0A] ∧
      exec .ldAIndBc s = .next { s with cpu := { s.cpu with a := s.memRead (s.cpu.b ++ s.cpu.c) }, stepCycles := 8 }) ∧
    (encode .ldAIndDe = [0x1A] ∧
      exec .ldAIndDe s = .next { s with cpu := { s.cpu with a := s.memRead (s.cpu.d ++ s.cpu.e) }, stepCycles := 8 }) ∧
    (encode (.ldAIndA16 a) = [0xFA, lowPart a, highPart a] ∧
      exec (.ldAIndA16 a) s = .next { s with cpu := { s.cpu with a := s.memRead a }, stepCycles := 16 }) ∧
    (encode (.ldhAIndA8 n) = [0xF0, n] ∧
      exec (.ldhAIndA8 n) s =
        .next { s with cpu := { s.cpu with a := s.memRead (BitVec.ofNat 16 (0xFF00 + n.toNat)) }, stepCycles := 12 }) ∧
    (encode .ldAIndC = [0xF2] ∧
      exec .ldAIndC s =
        .next { s with cpu := { s.cpu with a := s.memRead (BitVec.ofNat 16 (0xFF00 + s.cpu.c.toNat)) }, stepCycles := 8 })

/-- R207, R208, R210, R212, R214: `LD (BC),A` (ldIndBcA), `LD (DE),A` (ldIndDeA), `LD (a16),A` (ldIndA16A), `LDH (a8),A`
(ldhIndA8A) and `LD (C),A` (ldIndCA) write A at their address through MemWrite and change nothing else but the cycle count. -/
def Obligations.StoresOfTheAccumulator : Prop :=
  ∀ (a : Word) (n : Byte) (s : State),
    (encode .ldIndBcA = [0x02] ∧
      exec .ldIndBcA s = .next { s.memWrite (s.cpu.b ++ s.cpu.c) s.cpu.a with stepCycles := 8 }) ∧
    (encode .ldIndDeA = [0x12] ∧
      exec .ldIndDeA s = .next { s.memWrite (s.cpu.d ++ s.cpu.e) s.cpu.a with stepCycles := 8 }) ∧
    (encode (.ldIndA16A a) = [0xEA, lowPart a, highPart a] ∧
      exec (.ldIndA16A a) s = .next { s.memWrite a s.cpu.a with stepCycles := 16 }) ∧
    (encode (.ldhIndA8A n) = [0xE0, n] ∧
      exec (.ldhIndA8A n) s = .next { s.memWrite (BitVec.ofNat 16 (0xFF00 + n.toNat)) s.cpu.a with stepCycles := 12 }) ∧
    (encode .ldIndCA = [0xE2] ∧
      exec .ldIndCA s = .next { s.memWrite (BitVec.ofNat 16 (0xFF00 + s.cpu.c.toNat)) s.cpu.a with stepCycles := 8 })

/-- R215 to R218: `LD (HL+),A` (ldIndHliA), `LD (HL-),A` (ldIndHldA), `LD A,(HL+)` (ldAIndHli) and `LD A,(HL-)` (ldAIndHld)
access the byte at the old HL and then move HL by one modulo 2^16. -/
def Obligations.PostIncrementAndPostDecrementForms : Prop :=
  ∀ (s : State),
    let up : Word := BitVec.ofNat 16 ((hlOf s.cpu).toNat + 1)
    let down : Word := BitVec.ofNat 16 ((hlOf s.cpu).toNat + 65535)
    (encode .ldIndHliA = [0x22] ∧
      exec .ldIndHliA s = .next { s.memWrite (hlOf s.cpu) s.cpu.a with cpu := withPair s.cpu up .hl, stepCycles := 8 }) ∧
    (encode .ldIndHldA = [0x32] ∧
      exec .ldIndHldA s = .next { s.memWrite (hlOf s.cpu) s.cpu.a with cpu := withPair s.cpu down .hl, stepCycles := 8 }) ∧
    (encode .ldAIndHli = [0x2A] ∧
      exec .ldAIndHli s =
        .next { s with cpu := { withPair s.cpu up .hl with a := s.memRead (hlOf s.cpu) }, stepCycles := 8 }) ∧
    (encode .ldAIndHld = [0x3A] ∧
      exec .ldAIndHld s =
        .next { s with cpu := { withPair s.cpu down .hl with a := s.memRead (hlOf s.cpu) }, stepCycles := 8 })

/-- R219, R221: `LD rr,d16` (ldBcD16, ldDeD16, ldHlD16, ldSpD16) and `LD SP,HL` (ldSpHl) load a pair and change nothing else
but the cycle count. -/
def Obligations.LoadsOfASixteenBitRegister : Prop :=
  ∀ (p : R16) (n : Word) (s : State),
    (encode (.ldPair p n) = [byte (0x01 + 16 * pairCode p), lowPart n, highPart n] ∧
      exec (.ldPair p n) s = .next { s with cpu := withPair s.cpu n p, stepCycles := 12 }) ∧
    (encode .ldSpHl = [0xF9] ∧
      exec .ldSpHl s = .next { s with cpu := { s.cpu with sp := hlOf s.cpu }, stepCycles := 8 })

/-- R220: `LD (a16),SP` (ldIndA16Sp) writes the low byte of SP at a, then the high byte at a + 1 modulo 2^16, and changes
nothing else but the cycle count. -/
def Obligations.StoreOfTheStackPointer : Prop :=
  ∀ (a : Word) (s : State),
    encode (.ldIndA16Sp a) = [0x08, lowPart a, highPart a] ∧
      exec (.ldIndA16Sp a) s =
        .next { (s.memWrite a (lowPart s.cpu.sp)).memWrite (BitVec.ofNat 16 (a.toNat + 1)) (highPart s.cpu.sp) with
          stepCycles := 20 }

/-- R223: `PUSH rr` (pushBc, pushDe, pushHl, pushAf) writes the pair's high byte at SP - 1, then its low byte at SP - 2, and
leaves SP 2 lower; no other register changes. -/
def Obligations.PushOfAPair : Prop :=
  ∀ (p : R16Stk) (s : State),
    encode (.push p) = [byte (0xC5 + 16 * stkCode p)] ∧
      exec (.push p) s =
        .next { pushed s (stkValue s.cpu p) with cpu := { s.cpu with sp := s.cpu.sp - 2 }, stepCycles := 16 }

/-- R224, R225: `POP rr` (popBc, popDe, popHl, popAf) loads the pair from SP and SP + 1, F taking only the high nibble, and
leaves SP 2 higher; nothing else changes but the cycle count. -/
def Obligations.PopOfAPair : Prop :=
  ∀ (p : R16Stk) (s : State),
    encode (.pop p) = [byte (0xC1 + 16 * stkCode p)] ∧
      exec (.pop p) s =
        .next { s with cpu := { withStk s.cpu (popped s) p with sp := s.cpu.sp + 2 }, stepCycles := 12 }

/-! ### Arithmetic and logic (41_alu8.md, 42_alu16.md) -/

/-- R239 to R247: ADD, ADC, SUB, SBC, AND, XOR, OR and CP on a register, on (HL) (the 64 constructors addAB to cpAA) and on an
immediate (addAD8, adcAD8, subAD8, sbcAD8, andAD8, xorAD8, orAD8, cpAD8): the result and the four flags in exact numbers; CP
leaves A; nothing else changes but the cycle count. -/
def Obligations.EightBitArithmeticAndLogic : Prop :=
  ∀ (o : AluOp) (x : R8) (n : Byte) (s : State),
    (encode (.alu o x) = [byte (0x80 + 8 * aluCode o + r8Code x)] ∧
      exec (.alu o x) s =
        .next { s with cpu := aluCpu o s.cpu (operand s x), stepCycles := if x = .indHl then 8 else 4 }) ∧
    (encode (.aluImm o n) = [byte (0xC6 + 8 * aluCode o), n] ∧
      exec (.aluImm o n) s = .next { s with cpu := aluCpu o s.cpu n, stepCycles := 8 })

/-- R248 to R251: INC and DEC on a register and on (HL) (incB to incA, incIndHl, decB to decA, decIndHl): the operand moves by
one modulo 256; Z from the result, N 0 or 1, H from the low nibble of the old value, C kept. -/
def Obligations.EightBitIncrementAndDecrement : Prop :=
  ∀ (x : R8) (s : State),
    let v := (operand s x).toNat
    let up := withOperand s x (byte ((v + 1) % 256))
    let down := withOperand s x (byte ((v + 255) % 256))
    (encode (.inc x) = [byte (0x04 + 8 * r8Code x)] ∧
      exec (.inc x) s =
        .next { up with
          cpu := { up.cpu with f := flags (decide ((v + 1) % 256 = 0)) false (decide (v % 16 = 15)) (cOf s.cpu) },
          stepCycles := if x = .indHl then 12 else 4 }) ∧
    (encode (.dec x) = [byte (0x05 + 8 * r8Code x)] ∧
      exec (.dec x) s =
        .next { down with
          cpu := { down.cpu with f := flags (decide ((v + 255) % 256 = 0)) true (decide (v % 16 = 0)) (cOf s.cpu) },
          stepCycles := if x = .indHl then 12 else 4 })

/-- R265: `ADD HL,rr` (addHlBc, addHlDe, addHlHl, addHlSp): the sum modulo 2^16; Z kept, N 0, H out of bit 11, C out of bit 15. -/
def Obligations.SixteenBitAddition : Prop :=
  ∀ (p : R16) (s : State),
    let a := (hlOf s.cpu).toNat
    let b := (pairValue s.cpu p).toNat
    encode (.addHl p) = [byte (0x09 + 16 * pairCode p)] ∧
      exec (.addHl p) s =
        .next { s with
          cpu := { withPair s.cpu (BitVec.ofNat 16 (a + b)) .hl with
            f := flags (zOf s.cpu) false (decide (a % 4096 + b % 4096 > 4095)) (decide (a + b > 65535)) },
          stepCycles := 8 }

/-- R266, R267: `INC rr` (incBc, incDe, incHl, incSp) and `DEC rr` (decBc, decDe, decHl, decSp) move the pair by one modulo
2^16 and write no flag. -/
def Obligations.SixteenBitIncrementAndDecrement : Prop :=
  ∀ (p : R16) (s : State),
    let a := (pairValue s.cpu p).toNat
    (encode (.incPair p) = [byte (0x03 + 16 * pairCode p)] ∧
      exec (.incPair p) s = .next { s with cpu := withPair s.cpu (BitVec.ofNat 16 (a + 1)) p, stepCycles := 8 }) ∧
    (encode (.decPair p) = [byte (0x0B + 16 * pairCode p)] ∧
      exec (.decPair p) s = .next { s with cpu := withPair s.cpu (BitVec.ofNat 16 (a + 65535)) p, stepCycles := 8 })

/-- R222, R268: `ADD SP,e8` (addSpE8) and `LD HL,SP+e8` (ldHlSpE8): SP plus the signed e modulo 2^16, into SP or HL; Z and N are 0;
H and C come from the unsigned addition of the byte e to the low byte of SP; nothing else changes but the cycle count. -/
def Obligations.StackPointerPlusASignedByte : Prop :=
  ∀ (e : Byte) (s : State),
    let f := flags false false (decide (s.cpu.sp.toNat % 16 + e.toNat % 16 > 15)) (decide (s.cpu.sp.toNat % 256 + e.toNat > 255))
    (encode (.addSpE8 e) = [0xE8, e] ∧
      exec (.addSpE8 e) s = .next { s with cpu := { s.cpu with sp := plusSigned s.cpu.sp e, f := f }, stepCycles := 16 }) ∧
    (encode (.ldHlSpE8 e) = [0xF8, e] ∧
      exec (.ldHlSpE8 e) s =
        .next { s with cpu := { withPair s.cpu (plusSigned s.cpu.sp e) .hl with f := f }, stepCycles := 12 })

/-! ### Rotates, shifts and bits (43_rotate_shift_bit.md) -/

/-- R280 to R283: RLCA, RRCA, RLA and RRA (rlca, rrca, rla, rra) rotate A; Z, N and H are always 0, C is the bit rotated out. -/
def Obligations.AccumulatorRotates : Prop :=
  ∀ (s : State),
    let cin := (cOf s.cpu).toNat
    let out (o : RotOp) : State :=
      { s with
        cpu := { s.cpu with a := byte (rotValue o s.cpu.a.toNat cin), f := flags false false false (rotCarry o s.cpu.a.toNat) },
        stepCycles := 4 }
    (encode .rlca = [0x07] ∧ exec .rlca s = .next (out .rlc)) ∧
    (encode .rrca = [0x0F] ∧ exec .rrca s = .next (out .rrc)) ∧
    (encode .rla = [0x17] ∧ exec .rla s = .next (out .rl)) ∧
    (encode .rra = [0x1F] ∧ exec .rra s = .next (out .rr))

/-- R279, R284 to R291: RLC, RRC, RL, RR, SLA, SRA, SWAP and SRL on a register and on (HL) (the 64 constructors rlcB to srlA): the
operand is replaced by the result; Z from the result, N and H 0, C the bit shifted out (0 for SWAP). -/
def Obligations.CbRotatesAndShifts : Prop :=
  ∀ (o : RotOp) (x : R8) (s : State),
    let v := (operand s x).toNat
    let w := rotValue o v (cOf s.cpu).toNat
    let t := withOperand s x (byte w)
    encode (.rot o x) = [0xCB, byte (8 * rotCode o + r8Code x)] ∧
      exec (.rot o x) s =
        .next { t with
          cpu := { t.cpu with f := flags (decide (w = 0)) false false (rotCarry o v) },
          stepCycles := if x = .indHl then 16 else 8 }

/-- R292: `BIT b` on a register and on (HL) (the 64 constructors bit0B to bit7A): Z says whether the bit is 0, N is 0, H is 1, C is
kept; the operand is not written and nothing else changes but the cycle count. -/
def Obligations.BitTests : Prop :=
  ∀ (b : Fin 8) (x : R8) (s : State),
    encode (.bit b x) = [0xCB, byte (0x40 + 8 * b.val + r8Code x)] ∧
      exec (.bit b x) s =
        .next { s with
          cpu := { s.cpu with f := flags (decide ((operand s x).toNat / 2 ^ b.val % 2 = 0)) false true (cOf s.cpu) },
          stepCycles := if x = .indHl then 12 else 8 }

/-- R293, R294: `RES b` and `SET b` on a register and on (HL) (the 128 constructors res0B to res7A and set0B to set7A): the operand is
written back with that one bit 0 or 1; no flag changes. -/
def Obligations.BitResetAndSet : Prop :=
  ∀ (b : Fin 8) (x : R8) (s : State),
    let v := (operand s x).toNat
    let isOne := v / 2 ^ b.val % 2 = 1
    (encode (.res b x) = [0xCB, byte (0x80 + 8 * b.val + r8Code x)] ∧
      exec (.res b x) s =
        .next { withOperand s x (byte (if isOne then v - 2 ^ b.val else v)) with stepCycles := if x = .indHl then 16 else 8 }) ∧
    (encode (.set b x) = [0xCB, byte (0xC0 + 8 * b.val + r8Code x)] ∧
      exec (.set b x) s =
        .next { withOperand s x (byte (if isOne then v else v + 2 ^ b.val)) with stepCycles := if x = .indHl then 16 else 8 })

/-! ### Control transfer (44_control.md) -/

/-- R310 to R315: JP a16 (jpA16), JP cc (jpNzA16, jpZA16, jpNcA16, jpCA16), JP HL (jpHl), JR (jrE8) and JR cc (jrNzE8, jrZE8,
jrNcE8, jrCE8): PC is replaced when the condition holds; nothing else changes but the cycle count. -/
def Obligations.Jumps : Prop :=
  ∀ (cc : Cond) (a : Word) (e : Byte) (s : State),
    let jumpTo (v : Word) (cycles : Nat) : State := { s with cpu := { s.cpu with pc := v }, stepCycles := cycles }
    (encode (.jpA16 a) = [0xC3, lowPart a, highPart a] ∧ exec (.jpA16 a) s = .next (jumpTo a 16)) ∧
    (encode (.jpCc cc a) = [byte (0xC2 + 8 * ccCode cc), lowPart a, highPart a] ∧
      exec (.jpCc cc a) s = .next (if condHolds s.cpu cc then jumpTo a 16 else jumpTo s.cpu.pc 12)) ∧
    (encode .jpHl = [0xE9] ∧ exec .jpHl s = .next (jumpTo (hlOf s.cpu) 4)) ∧
    (encode (.jrE8 e) = [0x18, e] ∧ exec (.jrE8 e) s = .next (jumpTo (plusSigned s.cpu.pc e) 12)) ∧
    (encode (.jrCc cc e) = [byte (0x20 + 8 * ccCode cc), e] ∧
      exec (.jrCc cc e) s = .next (if condHolds s.cpu cc then jumpTo (plusSigned s.cpu.pc e) 12 else jumpTo s.cpu.pc 8))

/-- R316, R317, R320: CALL a16 (callA16), CALL cc (callNzA16, callZA16, callNcA16, callCA16) and RST (rst00 to rst38): the address of
the next instruction is pushed and PC takes the target; a CALL cc not taken pushes nothing. -/
def Obligations.CallsAndRestarts : Prop :=
  ∀ (cc : Cond) (a : Word) (y : Fin 8) (s : State),
    let goTo (v : Word) (cycles : Nat) : State :=
      { pushed s s.cpu.pc with cpu := { s.cpu with sp := s.cpu.sp - 2, pc := v }, stepCycles := cycles }
    (encode (.callA16 a) = [0xCD, lowPart a, highPart a] ∧ exec (.callA16 a) s = .next (goTo a 24)) ∧
    (encode (.callCc cc a) = [byte (0xC4 + 8 * ccCode cc), lowPart a, highPart a] ∧
      exec (.callCc cc a) s = .next (if condHolds s.cpu cc then goTo a 24 else { s with stepCycles := 12 })) ∧
    (encode (.rst y) = [byte (0xC7 + 8 * y.val)] ∧ exec (.rst y) s = .next (goTo (BitVec.ofNat 16 (8 * y.val)) 16))

/-- R318, R319, R321: RET (ret), RET cc (retNz, retZ, retNc, retC) and RETI (reti): PC is popped and SP is 2 higher; a RET cc not
taken changes nothing but the cycle count; RETI sets IME at once and clears `ime_pending`; F and every other register are kept. -/
def Obligations.Returns : Prop :=
  ∀ (cc : Cond) (s : State),
    let back (cycles : Nat) : State :=
      { s with cpu := { s.cpu with pc := popped s, sp := s.cpu.sp + 2 }, stepCycles := cycles }
    (encode .ret = [0xC9] ∧ exec .ret s = .next (back 16)) ∧
    (encode (.retCc cc) = [byte (0xC0 + 8 * ccCode cc)] ∧
      exec (.retCc cc) s = .next (if condHolds s.cpu cc then back 20 else { s with stepCycles := 8 })) ∧
    (encode .reti = [0xD9] ∧
      exec .reti s = .next { back 16 with cpu := { (back 16).cpu with ime := true, imePending := false } })

/-! ### Control, suspend and miscellaneous (45_misc.md) -/

/-- R330, R332 and the first step of R333: NOP (nop) changes nothing, HALT (halt) sets `halt`, STOP (stop) sets `stop` whatever its
second byte; each takes 4 cycles. -/
def Obligations.NopHaltAndStop : Prop :=
  ∀ (n : Byte) (s : State),
    (encode .nop = [0x00] ∧ exec .nop s = .next { s with stepCycles := 4 }) ∧
    (encode .halt = [0x76] ∧ exec .halt s = .next { s with cpu := { s.cpu with halt := true }, stepCycles := 4 }) ∧
    (encode (.stop n) = [0x10, n] ∧ exec (.stop n) s = .next { s with cpu := { s.cpu with stop := true }, stepCycles := 4 })

/-- R334: each of the eleven illegal bytes (illegalD3, illegalDB, illegalDD, illegalE3, illegalE4, illegalEB, illegalEC, illegalED,
illegalF4, illegalFC, illegalFD) appends its diagnostic with the byte's own address (PC - 1) and changes nothing else but the
cycle count. -/
def Obligations.IllegalOpcodesAreDiagnosedNoOps : Prop :=
  ∀ (s : State) (op : Byte) (i : Instr),
    (op, i) ∈ [((0xD3 : Byte), Instr.illegalD3), (0xDB, .illegalDB), (0xDD, .illegalDD), (0xE3, .illegalE3), (0xE4, .illegalE4),
      (0xEB, .illegalEB), (0xEC, .illegalEC), (0xED, .illegalED), (0xF4, .illegalF4), (0xFC, .illegalFC), (0xFD, .illegalFD)] →
    encode i = [op] ∧
      exec i s =
        .next { s with diag := s.diag ++ [.unknownOpcode op (s.cpu.pc - 1)], stepCycles := s.par.illegalOpCycles }

/-- R335, R336: DI (di) clears IME and `ime_pending`; EI (ei) sets `ime_pending` when EI_DELAY is true and IME at once when it is
false; nothing else changes but the cycle count. -/
def Obligations.DisableAndEnableInterrupts : Prop :=
  ∀ (s : State),
    (encode .di = [0xF3] ∧
      exec .di s = .next { s with cpu := { s.cpu with ime := false, imePending := false }, stepCycles := 4 }) ∧
    (encode .ei = [0xFB] ∧
      exec .ei s =
        .next { s with
          cpu := if s.par.eiDelay then { s.cpu with imePending := true } else { s.cpu with ime := true },
          stepCycles := 4 })

/-- R337: DAA (daa), in exact numbers: the addition case adds 0x60 and 0x06 and may set C, the subtraction case subtracts them and
keeps C; Z from the result, N kept, H 0; nothing else changes but the cycle count. -/
def Obligations.DecimalAdjust : Prop :=
  ∀ (s : State),
    let a := s.cpu.a.toNat
    let high := cOf s.cpu = true ∨ a > 0x99
    let low := hOf s.cpu = true ∨ a % 16 > 9
    let r :=
      if nOf s.cpu then (a + 512 - (if cOf s.cpu then 0x60 else 0) - (if hOf s.cpu then 0x06 else 0)) % 256
      else (a + (if high then 0x60 else 0) + (if low then 0x06 else 0)) % 256
    let c := if nOf s.cpu then cOf s.cpu else decide high
    encode .daa = [0x27] ∧
      exec .daa s =
        .next { s with
          cpu := { s.cpu with a := byte r, f := flags (decide (r = 0)) (nOf s.cpu) false c },
          stepCycles := 4 }

/-- R338 to R340: CPL (cpl) complements A and sets N and H; SCF (scf) sets C, CCF (ccf) complements it, both clearing N and H; Z (and
for CPL also C) is kept; nothing else changes but the cycle count. -/
def Obligations.ComplementAndCarryInstructions : Prop :=
  ∀ (s : State),
    (encode .cpl = [0x2F] ∧
      exec .cpl s =
        .next { s with
          cpu := { s.cpu with a := byte (255 - s.cpu.a.toNat), f := flags (zOf s.cpu) true true (cOf s.cpu) },
          stepCycles := 4 }) ∧
    (encode .scf = [0x37] ∧
      exec .scf s = .next { s with cpu := { s.cpu with f := flags (zOf s.cpu) false false true }, stepCycles := 4 }) ∧
    (encode .ccf = [0x3F] ∧
      exec .ccf s = .next { s with cpu := { s.cpu with f := flags (zOf s.cpu) false false (!cOf s.cpu) }, stepCycles := 4 })

/-- R331: the prefix with its CB byte (prefixCb) executes the CB instruction the decoder reads from the two bytes, and it answers a
next state; its cycles are that instruction's. -/
def Obligations.PrefixExecutesTheCbInstruction : Prop :=
  ∀ (cb : Byte) (s : State),
    encode (.prefixCb cb) = [0xCB, cb] ∧
      ∃ i t, decode [0xCB, cb] = .ok (i, []) ∧ i ≠ .prefixCb cb ∧
        exec i s = .next t ∧ exec (.prefixCb cb) s = .next t

namespace Sys2Proof.Claims

/-! ### Decoding in arithmetic -/

/-- The operand of an r8 code (30_encoding.md R152). -/
def r8OfCode : Nat → R8
  | 0 => .b | 1 => .c | 2 => .d | 3 => .e | 4 => .h | 5 => .l | 6 => .indHl | _ => .a

/-- The operation of a CB rotate/shift code (30_encoding.md R157). -/
def rotOfCode : Nat → RotOp
  | 0 => .rlc | 1 => .rrc | 2 => .rl | 3 => .rr | 4 => .sla | 5 => .sra | 6 => .swap | _ => .srl

/-- The CB instruction of a CB byte: `x = cb[7:6]` selects the group, the bit index is `(cb[7:4] & 3) * 2 + cb[3]`, the operand
is r8 code `cb[2:0]` (30_encoding.md R159, R161). -/
def cbInstr (cb : Byte) : Instr :=
  let n := cb.toNat
  let x := r8OfCode (n % 8)
  let b := n / 16 % 4 * 2 + n / 8 % 2
  match n / 64 with
  | 0 => .rot (rotOfCode b) x
  | 1 => .bit (Fin.ofNat 8 b) x
  | 2 => .res (Fin.ofNat 8 b) x
  | _ => .set (Fin.ofNat 8 b) x

/-- The first bytes of the two-byte instructions (30_encoding.md R150). -/
def twoByteOps : List Nat :=
  [0x06, 0x0E, 0x10, 0x16, 0x18, 0x1E, 0x20, 0x26, 0x28, 0x2E, 0x30, 0x36, 0x38, 0x3E, 0xC6, 0xCB, 0xCE, 0xD6, 0xDE, 0xE0, 0xE6,
    0xE8, 0xEE, 0xF0, 0xF6, 0xF8, 0xFE]

/-- The first bytes of the three-byte instructions (30_encoding.md R150). -/
def threeByteOps : List Nat :=
  [0x01, 0x08, 0x11, 0x21, 0x31, 0xC2, 0xC3, 0xC4, 0xCA, 0xCC, 0xCD, 0xD2, 0xD4, 0xDA, 0xDC, 0xEA, 0xFA]

/-- The length of an instruction by its first byte (30_encoding.md R150). -/
def lengthOf (op : Byte) : Nat :=
  if op.toNat ∈ twoByteOps then 2 else if op.toNat ∈ threeByteOps then 3 else 1

/-! ### The step -/

/-- The state a step works on: the boot overlay ends when it begins with PC >= 0x0100 (20_memory.md R88). -/
def begun (s : State) : State := { s with booting := s.booting && decide (s.cpu.pc.toNat < 0x0100) }

/-- Whether STOP suspends the CPU (60_exceptions.md R401, R418). -/
def stoppedBy (s : State) : Prop := s.cpu.stop = true ∧ s.par.stopMode = .suspend

/-- The three bytes at PC. -/
def bytesAtPc (s : State) : List Byte := [s.memRead s.cpu.pc, s.memRead (s.cpu.pc + 1), s.memRead (s.cpu.pc + 2)]

/-- `IF & IE & 0x1F` bit i (60_exceptions.md R411). -/
def pendingBit (s : State) (i : Nat) : Bool := decide (i < 5) && s.iflag.getLsbD i && s.ie.getLsbD i

/-! ### Memory -/

/-- Whether a write at a may change what a read at b returns, by the owner of a (20_memory.md R85, R86): plain memory and most
registers are their own address alone; a controller write may change the two banked windows; MBC2's RAM repeats every 512
addresses; DMA fills OAM; VBK moves VRAM; BCPS and BCPD share the palette index. -/
def touches (s : State) (a b : Word) : Prop :=
  match s.owner a with
  | .boot | .rom0 | .romX => (0x4000 ≤ b.toNat ∧ b.toNat < 0x8000) ∨ (0xA000 ≤ b.toNat ∧ b.toNat < 0xC000)
  | .ext =>
    if s.cart.ctype = .mbc2 then 0xA000 ≤ b.toNat ∧ b.toNat < 0xC000 ∧ b.toNat % 512 = a.toNat % 512 else b = a
  | .dma => b = a ∨ (0xFE00 ≤ b.toNat ∧ b.toNat < 0xFEA0)
  | .vbk => b = a ∨ (0x8000 ≤ b.toNat ∧ b.toNat < 0xA000)
  | .bcps | .bcpd => b = 0xFF68 ∨ b = 0xFF69
  | .ly => False
  | _ => b = a

/-- The addresses an instruction stores to, in order (40_loads.md to 45_misc.md): computed on the state it executes in. -/
def storeAddrs (i : Instr) (s : State) : List Word :=
  let hl := [hlOf s.cpu]
  let stack := [s.cpu.sp - 1, s.cpu.sp - 2]
  match i with
  | .ldIndHlB | .ldIndHlC | .ldIndHlD | .ldIndHlE | .ldIndHlH | .ldIndHlL | .ldIndHlA | .ldIndHlD8 _ => hl
  | .ldIndHliA | .ldIndHldA | .incIndHl | .decIndHl => hl
  | .rlcIndHl | .rrcIndHl | .rlIndHl | .rrIndHl | .slaIndHl | .sraIndHl | .swapIndHl | .srlIndHl => hl
  | .res0IndHl | .res1IndHl | .res2IndHl | .res3IndHl | .res4IndHl | .res5IndHl | .res6IndHl | .res7IndHl => hl
  | .set0IndHl | .set1IndHl | .set2IndHl | .set3IndHl | .set4IndHl | .set5IndHl | .set6IndHl | .set7IndHl => hl
  | .prefixCb cb => if cb.toNat % 8 = 6 ∧ cb.toNat / 64 ≠ 1 then hl else []
  | .ldIndBcA => [s.cpu.b ++ s.cpu.c]
  | .ldIndDeA => [s.cpu.d ++ s.cpu.e]
  | .ldIndA16A a => [a]
  | .ldhIndA8A n => [BitVec.ofNat 16 (0xFF00 + n.toNat)]
  | .ldIndCA => [BitVec.ofNat 16 (0xFF00 + s.cpu.c.toNat)]
  | .ldIndA16Sp a => [a, a + 1]
  | .pushBc | .pushDe | .pushHl | .pushAf | .callA16 _ => stack
  | .rst00 | .rst08 | .rst10 | .rst18 | .rst20 | .rst28 | .rst30 | .rst38 => stack
  | .callNzA16 _ => if condHolds s.cpu .nz then stack else []
  | .callZA16 _ => if condHolds s.cpu .z then stack else []
  | .callNcA16 _ => if condHolds s.cpu .nc then stack else []
  | .callCA16 _ => if condHolds s.cpu .c then stack else []
  | _ => []

/-- What reading an address returns right after v was written there, where the spec fixes it (20_memory.md R86, R93, R94, R108, R114,
R122; 60_exceptions.md R431, R435, R436, R441 to R444). None for the switchable ROM window, for BCPD (its index may move) and for an
enabled clock register (a draw). -/
def readBack (s : State) (a : Word) (v : Byte) : Option Byte :=
  match s.owner a with
  | .boot | .rom0 => some (s.memRead a)
  | .romX | .bcpd => none
  | .ext =>
    if s.cart.ramEnabled = false then some 0xFF
    else match s.cart.ctype, s.cart.rtcSelect with
      | .romOnly, _ => some 0xFF
      | .mbc1, _ | .mbc5, _ | .mbc3, none => some v
      | .mbc2, _ => some (v ||| 0xF0)
      | .mbc3, some _ => if s.cart.rtcEnabled then none else some 0xFF
  | .ly => some s.ppu.ly
  | .div => some 0x00
  | .tac => some (v ||| 0xF8)
  | .iflag => some (v ||| 0xE0)
  | .stat => some (0x80 ||| (v &&& 0x78) ||| (s.ppu.stat &&& 0x07))
  | .vbk => some (v ||| 0xFE)
  | .bcps => some (v ||| 0x40)
  | .joyp =>
    let dirs : BitVec 4 := if v.getLsbD 4 then 0xF else s.joy.dirMask
    let btns : BitVec 4 := if v.getLsbD 5 then 0xF else s.joy.btnMask
    let keys : Byte := (dirs &&& btns).setWidth 8
    some (0xC0 ||| (v &&& 0x30) ||| keys)
  | _ => some v

/-! ### The timer as the spec writes it -/

/-- `while div_counter >= 256: div_counter <- div_counter - 256; DIV <- (DIV + 1) mod 256`, at most k rounds
(60_exceptions.md R432). -/
def divLoop : Nat → Timer → Timer
  | 0, t => t
  | k + 1, t =>
    if 256 ≤ t.divCounter then divLoop k { t with divCounter := t.divCounter - 256, div := byte ((t.div.toNat + 1) % 256) } else t

/-- `while tima_counter >= th: ...`, at most k rounds, on the timer and IF (60_exceptions.md R432). -/
def timaLoop (th : Nat) : Nat → Timer × Byte → Timer × Byte
  | 0, x => x
  | k + 1, x =>
    if th ≤ x.1.timaCounter then
      if x.1.tima = 0xFF then timaLoop th k ({ x.1 with timaCounter := x.1.timaCounter - th, tima := x.1.tma }, x.2 ||| 0x04)
      else timaLoop th k ({ x.1 with timaCounter := x.1.timaCounter - th, tima := byte (x.1.tima.toNat + 1) }, x.2)
    else x

/-- `[1024, 16, 64, 256][TAC[1:0]]` (60_exceptions.md R432). -/
def threshold (tac : BitVec 3) : Nat := [1024, 16, 64, 256].getD (tac.toNat % 4) 0

/-- `TimerUpdate(c)` with its two loops cut after k rounds (60_exceptions.md R432). -/
def timerLoops (k : Nat) (s : State) (c : Nat) : State :=
  let t := divLoop k { s.timer with divCounter := s.timer.divCounter + c }
  if s.timer.tac.toNat / 4 = 1 then
    let x := timaLoop (threshold t.tac) k ({ t with timaCounter := t.timaCounter + c }, s.iflag)
    { s with timer := x.1, iflag := x.2 }
  else { s with timer := t }

/-! ### The PPU -/

/-- `Mode(ly, d)` (60_exceptions.md R455): 80 cycles of mode 2, 172 of mode 3 and 204 of mode 0 on a visible line, mode 1 on the
others (R458). -/
def modeAt (ly dot : Nat) : Nat :=
  if ly < 144 then (if dot < 80 then 2 else if dot < 80 + 172 then 3 else 0) else 1

/-- The place of the PPU in its frame, in cycles (60_exceptions.md R458). -/
def framePlace (p : Ppu) : Nat := p.ly.toNat * 456 + p.dot

/-- The background or window colour index and pixel of column x of line ly, as 60_exceptions.md R461 writes it, WX - 7 being a
signed number. -/
def bgPixel (par : Params) (p : Ppu) (ly x : Nat) : Nat × Rgba :=
  let shades := [par.shade0, par.shade1, par.shade2, par.shade3]
  if p.lcdc.getLsbD 0 = false then (0, par.shade0)
  else
    let left : Int := p.wx.toNat - 7
    let win := p.lcdc.getLsbD 5 = true ∧ p.wy.toNat ≤ ly ∧ left ≤ x
    let px : Nat := if win then ((x : Int) - left).toNat else (x + p.scx.toNat) % 256
    let py : Nat := if win then ly - p.wy.toNat else (ly + p.scy.toNat) % 256
    let map : Nat :=
      if win then (if p.lcdc.getLsbD 6 then 0x9C00 else 0x9800) else (if p.lcdc.getLsbD 3 then 0x9C00 else 0x9800)
    let off := map - 0x8000 + py / 8 * 32 + px / 8
    let idx : Int := (p.vram0Byte off).toNat
    let t : Int := if p.lcdc.getLsbD 4 then idx else 256 + (if 128 ≤ idx then idx - 256 else idx)
    let b0 := (p.vram0Byte (16 * t.toNat + 2 * (py % 8))).toNat
    let b1 := (p.vram0Byte (16 * t.toNat + 2 * (py % 8) + 1)).toNat
    let ci := b1 / 2 ^ (7 - px % 8) % 2 * 2 + b0 / 2 ^ (7 - px % 8) % 2
    if par.colorMode then
      let pal := (p.vram1Byte off).toNat % 8
      let w := (p.palByte (pal * 8 + ci * 2 + 1)).toNat * 256 + (p.palByte (pal * 8 + ci * 2)).toNat
      let expand (c : Nat) : Byte := byte (c * 8 + c / 4)
      (ci, ⟨expand (w % 32), expand (w / 32 % 32), expand (w / 1024 % 32), 0xFF⟩)
    else (ci, shades.getD (p.bgp.toNat / 4 ^ ci % 4) par.shade0)

/-- What OAM entry n paints at column x of line ly, if it shows there, as 60_exceptions.md R462 and R463 write it with signed
coordinates. -/
def spritePixel (par : Params) (p : Ppu) (bgci : Nat) (ly n x : Nat) : Option Rgba :=
  let shades := [par.shade0, par.shade1, par.shade2, par.shade3]
  let h : Int := if p.lcdc.getLsbD 2 then 16 else 8
  let top : Int := (p.oamByte (4 * n)).toNat - 16
  let left : Int := (p.oamByte (4 * n + 1)).toNat - 8
  let tile := (p.oamByte (4 * n + 2)).toNat
  let attr := p.oamByte (4 * n + 3)
  let col : Int := x - left
  if top ≤ ly ∧ (ly : Int) < top + h ∧ 0 ≤ col ∧ col < 8 then
    let row : Int := if attr.getLsbD 6 then h - 1 - (ly - top) else ly - top
    let t : Nat := if h = 16 then (if row < 8 then tile / 2 * 2 else tile / 2 * 2 + 1) else tile
    let c : Nat := (if attr.getLsbD 5 then 7 - col else col).toNat
    let b0 := (p.vram0Byte (16 * t + 2 * (row.toNat % 8))).toNat
    let b1 := (p.vram0Byte (16 * t + 2 * (row.toNat % 8) + 1)).toNat
    let ci := b1 / 2 ^ (7 - c) % 2 * 2 + b0 / 2 ^ (7 - c) % 2
    if ci = 0 ∨ (attr.getLsbD 7 = true ∧ bgci ≠ 0) then none
    else some (shades.getD ((if attr.getLsbD 4 then p.obp1 else p.obp0).toNat / 4 ^ ci % 4) par.shade0)
  else none

/-! ### Bank controllers -/

/-- The state after a bank-select write of v at a that leaves bank b selected: `BankCoerced` is reported when a 0 was coerced or
the bank lies past the cartridge (20_memory.md R117). -/
def bankSelected (s : State) (a : Word) (v : Byte) (coerced : Bool) (b : Nat) : State :=
  { s with
    cart := { s.cart with romBank := BitVec.ofNat 9 b }
    diag := s.diag ++ (if coerced ∨ (s.cart.rom.size + 0x3FFF) / 0x4000 ≤ b then [.bankCoerced a v (BitVec.ofNat 9 b)] else []) }

/-- A low nibble of 0xA (20_memory.md R101). -/
def lowNibbleA (v : Byte) : Bool := decide (v.toNat % 16 = 10)

/-- The mask bit of a key, 0 for a pressed one (60_exceptions.md R437, 10_state.md R51). -/
def maskOf (j : Joypad) : Key → Bool
  | .right => j.dirMask.getLsbD 0 | .left => j.dirMask.getLsbD 1 | .up => j.dirMask.getLsbD 2 | .down => j.dirMask.getLsbD 3
  | .a => j.btnMask.getLsbD 0 | .b => j.btnMask.getLsbD 1 | .select => j.btnMask.getLsbD 2 | .start => j.btnMask.getLsbD 3

/-! ### Reset -/

/-- The plain I/O addresses: 0xFF00-0xFF7F but for those of a device (20_memory.md R84, R85). -/
def plainIo (color : Bool) (n : Nat) : Prop :=
  0xFF00 ≤ n ∧ n < 0xFF80 ∧ n ∉ [0xFF00, 0xFF04, 0xFF05, 0xFF06, 0xFF07, 0xFF0F] ∧ ¬ (0xFF40 ≤ n ∧ n < 0xFF4C) ∧
    (color = true → n ∉ [0xFF4F, 0xFF68, 0xFF69])

/-- The published bytes of the sound addresses (10_state.md R49). -/
def soundBytes : List (Nat × Byte) :=
  [(0xFF10, 0x80), (0xFF11, 0xBF), (0xFF12, 0xF3), (0xFF14, 0xBF), (0xFF16, 0x3F), (0xFF17, 0x00), (0xFF19, 0xBF), (0xFF1A, 0x7F),
    (0xFF1B, 0xFF), (0xFF1C, 0x9F), (0xFF1E, 0xBF), (0xFF20, 0xFF), (0xFF21, 0x00), (0xFF22, 0x00), (0xFF23, 0xBF), (0xFF24, 0x77),
    (0xFF25, 0xF3), (0xFF26, 0xF1)]

/-- What a plain I/O address holds at reset: its published byte, or 0x00 (10_state.md R49). -/
def resetByte (n : Nat) : Byte := (soundBytes.lookup n).getD 0x00

/-- The controller kind of each supported type byte (20_memory.md R96). -/
def kinds : List (Byte × CartType) :=
  [(0x00, .romOnly), (0x01, .mbc1), (0x02, .mbc1), (0x03, .mbc1), (0x05, .mbc2), (0x06, .mbc2), (0x0F, .mbc3), (0x10, .mbc3),
    (0x11, .mbc3), (0x12, .mbc3), (0x13, .mbc3), (0x19, .mbc5), (0x1A, .mbc5), (0x1B, .mbc5), (0x1C, .mbc5), (0x1D, .mbc5), (0x1E, .mbc5)]

/-- A number from 0 to 99 as two decimal digits in a byte. -/
def bcd (n : Nat) : Byte := byte (n / 10 * 16 + n % 10)

end Sys2Proof.Claims

/-! ### Encoding (30_encoding.md) -/

/-- A word of each family, written out from the opcode maps (30_encoding.md R160, R161), decodes to its instruction and leaves the
bytes after it. -/
def Obligations.WordsOfEveryFamilyDecode : Prop :=
  decode [0x00, 0xAA, 0xBB] = .ok (.nop, [0xAA, 0xBB]) ∧
  decode [0x41, 0xAA] = .ok (.ldBC, [0xAA]) ∧
  decode [0x36, 0x42] = .ok (.ldIndHlD8 0x42, []) ∧
  decode [0xFA, 0x44, 0xFF] = .ok (.ldAIndA16 0xFF44, []) ∧
  decode [0x32] = .ok (.ldIndHldA, []) ∧
  decode [0x08, 0x00, 0xC1] = .ok (.ldIndA16Sp 0xC100, []) ∧
  decode [0xF5] = .ok (.pushAf, []) ∧
  decode [0x8B] = .ok (.adcAE, []) ∧
  decode [0xFE, 0x90] = .ok (.cpAD8 0x90, []) ∧
  decode [0x35] = .ok (.decIndHl, []) ∧
  decode [0x39] = .ok (.addHlSp, []) ∧
  decode [0x1F] = .ok (.rra, []) ∧
  decode [0xCB, 0x37] = .ok (.swapA, []) ∧
  decode [0xCB, 0x5E] = .ok (.bit3IndHl, []) ∧
  decode [0xCB, 0x98] = .ok (.res3B, []) ∧
  decode [0xCB, 0xFE] = .ok (.set7IndHl, []) ∧
  decode [0x20, 0xFC] = .ok (.jrNzE8 0xFC, []) ∧
  decode [0xD4, 0x00, 0x40] = .ok (.callNcA16 0x4000, []) ∧
  decode [0xEF] = .ok (.rst28, []) ∧
  decode [0xD9] = .ok (.reti, []) ∧
  decode [0x10, 0x00] = .ok (.stop 0x00, []) ∧
  decode [0xDB] = .ok (.illegalDB, []) ∧
  decode [] = .error .noOpcode ∧
  decode [0xCD, 0x00] = .error (.missingOperand 0xCD)

/-- For every well-formed instruction, at every value of its operands, decoding its bytes followed by any others gives it back with
the others left over: no bit of an encoding is dropped. -/
def Obligations.DecodingAnEncodingGivesTheInstruction : Prop :=
  ∀ (i : Instr) (rest : List Byte), i.wf = true → decode (encode i ++ rest) = .ok (i, rest)

/-- Every three bytes decode: to a well-formed instruction whose encoding followed by the bytes left over is the three bytes. So no
byte is rejected, and each sequence of bytes has one meaning. -/
def Obligations.EveryByteSequenceDecodes : Prop :=
  ∀ (b0 b1 b2 : Byte), ∃ i rest, decode [b0, b1, b2] = .ok (i, rest) ∧ i.wf = true ∧ encode i ++ rest = [b0, b1, b2]

/-- R150, R164: the number of bytes an instruction takes is a function of its first byte: 2 and 3 for the listed bytes, 1 for every
other. -/
def Obligations.LengthFollowsFromTheFirstByte : Prop :=
  ∀ (b0 b1 b2 : Byte) (i : Instr) (rest : List Byte),
    decode [b0, b1, b2] = .ok (i, rest) → rest.length + lengthOf b0 = 3 ∧ (encode i).length = lengthOf b0

/-- R161: every CB byte is decoded by arithmetic on its nibbles. -/
def Obligations.CbBytesDecodeByArithmetic : Prop :=
  ∀ (cb : Byte) (rest : List Byte), decode (0xCB :: cb :: rest) = .ok (cbInstr cb, rest)

/-! ### The step (60_exceptions.md, 70_reset_and_hazards.md) -/

/-- R400, R505: when the CPU is not suspended and the bytes at PC decode to i, a step runs `exec i` with PC just past the
instruction, then advances the devices by its cycles, checks interrupts, advances the devices by the check's cycles, lets EI take
effect and counts the cycles. -/
def Obligations.AStepRunsTheDecodedInstruction : Prop :=
  ∀ (s t : State) (i : Instr) (rest : List Byte),
    s.cpu.halt = false → ¬ stoppedBy s →
    decode (bytesAtPc (begun s)) = .ok (i, rest) →
    exec i { begun s with cpu := { s.cpu with pc := s.cpu.pc + BitVec.ofNat 16 (3 - rest.length) } } = .next t →
    let c := t.stepCycles
    let u := ((t.ppuUpdate c).timerUpdate c).handleInterrupts
    let w := if 0 < u.2 then (u.1.ppuUpdate u.2).timerUpdate u.2 else u.1
    step s =
      .next { w with
        cpu := if w.cpu.imePending then { w.cpu with ime := true, imePending := false } else w.cpu,
        stepCycles := c + u.2, totalCycles := t.totalCycles + c + u.2 }

/-- R403: nothing traps: every instruction answers a next state in every state, and so does every step. -/
def Obligations.EveryInstructionAndEveryStepAnswers : Prop :=
  (∀ (i : Instr) (s : State), ∃ t, exec i s = .next t) ∧ ∀ s : State, ∃ t, step s = .next t

/-- The invariant of Sys2Proof/Safety.lean (10_state.md R54, the canonical form of every memory, and what each controller's registers
keep) is kept by every step from every state that has it. -/
def Obligations.EveryStepKeepsTheInvariant : Prop :=
  ∀ (s t : State), s.Inv → step s = .next t → t.Inv

/-- The invariant holds after reset, for every cartridge and every choice of the parameters. -/
def Obligations.TheInvariantHoldsAtReset : Prop :=
  State.reset.Inv ∧ ∀ (p : Params) (rom : Rom), (State.resetWith p rom).Inv

/-- What every step keeps and counts, from any state: the total cycles grow by the step's (R505, R38); `booting` is never set and
ends with PC >= 0x0100 (R88); the parameters, the cartridge and its kind never change (R41, R90); only the host changes the key
masks (R437); `ime_pending` is consumed (R36); the diagnostics only grow (R39). -/
def Obligations.WhatEveryStepKeeps : Prop :=
  ∀ (s t : State), step s = .next t →
    t.totalCycles = s.totalCycles + t.stepCycles ∧
    t.booting = (s.booting && decide (s.cpu.pc.toNat < 0x0100)) ∧
    t.par = s.par ∧ t.cart.rom = s.cart.rom ∧ t.cart.ctype = s.cart.ctype ∧
    t.joy.dirMask = s.joy.dirMask ∧ t.joy.btnMask = s.joy.btnMask ∧
    t.cpu.imePending = false ∧ ∃ d, t.diag = s.diag ++ d

/-- R35, R36, R37: no instruction but EI, DI and RETI changes IME or `ime_pending`, none but HALT changes `halt`, and none but STOP
changes `stop`. -/
def Obligations.OnlyTheNamedInstructionsChangeTheControlBits : Prop :=
  ∀ (i : Instr) (s t : State), exec i s = .next t →
    (i ≠ .ei → i ≠ .di → i ≠ .reti → t.cpu.ime = s.cpu.ime ∧ t.cpu.imePending = s.cpu.imePending) ∧
    (i ≠ .halt → t.cpu.halt = s.cpu.halt) ∧
    ((∀ n, i ≠ .stop n) → t.cpu.stop = s.cpu.stop)

/-- R411, R413, R414, R415, R416, R417, R418: the interrupt check. Stopped: nothing. IME set: the lowest pending and enabled source is
dispatched: PC pushed, IME, `ime_pending` and `halt` cleared, its request bit alone cleared, PC at 0x0040 + 8 i, the service cycles
returned. IME clear and halted with a source pending and enabled: `halt` is cleared. Otherwise nothing. -/
def Obligations.TheInterruptCheck : Prop :=
  ∀ (s : State),
    (stoppedBy s → s.handleInterrupts = (s, 0)) ∧
    (¬ stoppedBy s → s.cpu.ime = true → ∀ i, pendingBit s i = true → (∀ j, j < i → pendingBit s j = false) →
      s.handleInterrupts =
        ({ pushed { s with iflag := BitVec.ofNat 8 (s.iflag.toNat - 2 ^ i) } s.cpu.pc with
            cpu := { s.cpu with
              ime := false, imePending := false, halt := false, sp := s.cpu.sp - 2, pc := BitVec.ofNat 16 (0x0040 + 8 * i) } },
          s.par.irqServiceCycles)) ∧
    (¬ stoppedBy s → s.cpu.ime = false → s.cpu.halt = true → (∃ i, pendingBit s i = true) →
      s.handleInterrupts = ({ s with cpu := { s.cpu with halt := false } }, 0)) ∧
    (¬ stoppedBy s → ((∀ i, pendingBit s i = false) ∨ (s.cpu.ime = false ∧ s.cpu.halt = false)) → s.handleInterrupts = (s, 0))

/-- R336, R511: with EI_DELAY, the step of an EI executed with IME = 0 ends with IME = 1, `ime_pending` = 0 and PC at the next
instruction, and dispatches nothing whatever IF and IE hold; SP and every other register are kept. -/
def Obligations.TheStepOfEiDispatchesNothing : Prop :=
  ∀ (s : State),
    s.par.eiDelay = true → s.cpu.halt = false → ¬ stoppedBy s → s.cpu.ime = false → (begun s).memRead s.cpu.pc = 0xFB →
    ∃ t, step s = .next t ∧ t.cpu = { s.cpu with pc := s.cpu.pc + 1, ime := true, imePending := false } ∧ t.stepCycles = 4

/-- R333, R401, R418: while STOP suspends the CPU, any number of steps changes no register, no memory (WRAM, HRAM and the plain
addresses, external RAM, both VRAM banks, OAM, palette RAM) and no controller state, whatever interrupts are requested, and each takes
HALT_IDLE_CYCLES; a button press ends it. -/
def Obligations.StopHoldsUntilAButtonPress : Prop :=
  ∀ (n : Nat) (s : State) (k : Key),
    stoppedBy s → s.cpu.imePending = false →
    (s.keyPress k).cpu.stop = false ∧
    ∃ t, Host.Core.run Sys2Proof.core n s = .next t ∧
      t.cpu = s.cpu ∧ t.mem = s.mem ∧ t.cart = s.cart ∧ t.ie = s.ie ∧ t.ppu.vram0 = s.ppu.vram0 ∧ t.ppu.vram1 = s.ppu.vram1 ∧
      t.ppu.oam = s.ppu.oam ∧ t.ppu.bgPal = s.ppu.bgPal ∧ t.totalCycles = s.totalCycles + n * s.par.haltIdleCycles

/-- R520: from a state with `halt` = 1 and `IE & 0x1F` = 0, any number of steps leaves it so, with the CPU's registers, memory, IE and
the cartridge as they were: the run has ended. -/
def Obligations.TheEndOfARunIsForGood : Prop :=
  ∀ (n : Nat) (s : State),
    s.cpu.halt = true → s.ie &&& 0x1F = 0 → s.cpu.imePending = false →
    ∃ t, Host.Core.run Sys2Proof.core n s = .next t ∧
      t.cpu = s.cpu ∧ t.ie = s.ie ∧ t.mem = s.mem ∧ t.cart = s.cart ∧ t.ended = true

/-! ### Memory (20_memory.md) -/

/-- R85, R86: a write at a leaves what every address returns that it cannot touch. For b in the window of an enabled MBC3 clock register,
whose reads are the draw `RTC_READ`, this is the model's choice (log entry 6): the draw depends on the register, the address and
`total_cycles` alone, so a write, even of that clock register through another address, leaves it. -/
def Obligations.AWriteLeavesEveryOtherAddressAlone : Prop :=
  ∀ (s : State) (a b : Word) (v : Byte), s.MemWf → ¬ touches s a b → (s.memWrite a v).memRead b = s.memRead b

/-- The frame of memory, for every instruction: an address that none of the instruction's stores can touch reads as before; for an
instruction that stores nothing (every one not named in `storeAddrs`: its list is empty), every address does. For b in the window of an
enabled MBC3 clock register, whose reads are the draw `RTC_READ`, this is the model's choice (log entry 6): the draw depends on the
register, the address and `total_cycles` alone. -/
def Obligations.EveryInstructionLeavesTheRestOfMemory : Prop :=
  ∀ (i : Instr) (s t : State) (b : Word),
    s.MemWf → exec i s = .next t → (∀ a ∈ storeAddrs i s, ¬ touches s a b) → t.memRead b = s.memRead b

/-- An instruction that stores nothing leaves the devices, the controller, IF and IE too; one that stores leaves the parameters,
`booting`, the cartridge's bytes and `total_cycles`, and the diagnostics only grow. -/
def Obligations.EveryInstructionLeavesTheRestOfTheMachine : Prop :=
  ∀ (i : Instr) (s t : State), exec i s = .next t →
    (storeAddrs i s = [] →
      t.ppu = s.ppu ∧ t.timer = s.timer ∧ t.joy = s.joy ∧ t.mem = s.mem ∧ t.cart = s.cart ∧ t.iflag = s.iflag ∧ t.ie = s.ie) ∧
    t.par = s.par ∧ t.booting = s.booting ∧ t.cart.rom = s.cart.rom ∧ t.cart.ctype = s.cart.ctype ∧
    t.totalCycles = s.totalCycles ∧ ∃ d, t.diag = s.diag ++ d

/-- R86, R93, R94, R108, R122, R431, R436, R441 to R444: what an address returns right after a write to it, for memory and for each register
(its unused bits, its read-only bits, a DIV write's zero, an ignored LY write); and a BCPD write stores the palette byte BCPS
names and moves the index when BCPS bit 7 is set. -/
def Obligations.WhatAnAddressReadsAfterAWrite : Prop :=
  ∀ (s : State) (a : Word) (v : Byte),
    (∀ r, s.MemWf → readBack s a v = some r → (s.memWrite a v).memRead a = r) ∧
    (s.owner a = .bcpd →
      (s.memWrite a v).ppu.palByte (s.ppu.bcps.toNat % 64) = v ∧
      (s.memWrite a v).ppu.bcps =
        if s.ppu.bcps.toNat / 128 = 1 then byte (128 + (s.ppu.bcps.toNat + 1) % 64) else s.ppu.bcps)

/-- R120, R121: a write of v to 0xFF46 sets the DMA register and fills OAM: byte i becomes what a read of (v << 8) + i returns once the
register holds v; v = 0xFE leaves OAM as it was; nothing else in the machine changes. -/
def Obligations.OamDmaCopiesOneHundredAndSixtyBytes : Prop :=
  ∀ (s : State) (v : Byte),
    (∃ m, s.memWrite 0xFF46 v = { s with ppu := { s.ppu with dma := v, oam := m } }) ∧
    ∀ i, i < 160 →
      (s.memWrite 0xFF46 v).memRead (BitVec.ofNat 16 (0xFE00 + i)) =
        if v = 0xFE then s.memRead (BitVec.ofNat 16 (0xFE00 + i))
        else State.memRead { s with ppu := { s.ppu with dma := v } } (BitVec.ofNat 16 (v.toNat * 256 + i))

/-- R87, R89, R91, R92, R93: 0x0000-0x00FF read the boot ROM while booting (a byte the boot ROM does not list is 0x00, log entry 1); bank
0 otherwise reads the cartridge's first 16 KiB, 0xFF past its end; the switchable window reads the selected bank, the last bank when it
lies past the cartridge, 0xFF past the cartridge's end; external RAM that is not enabled reads 0xFF and drops writes. -/
def Obligations.CartridgeWindowsAndDisabledRam : Prop :=
  ∀ (s : State) (a : Word) (v : Byte),
    let banks := (s.cart.rom.size + 0x3FFF) / 0x4000
    let b := if s.cart.ctype = .romOnly then 1 else s.cart.romBank.toNat
    let b' := if b < banks then b else max (banks - 1) 1
    let at' (p : Nat) : Byte := if p < s.cart.rom.size then (s.cart.rom.bytes.get? p).getD 0x00 else 0xFF
    (∀ boot, s.booting = true → s.par.bootRom = some boot → a.toNat < 0x0100 →
      s.memRead a = (Mem.get? boot a.toNat).getD 0x00) ∧
    (s.booting = false → a.toNat < 0x0100 → s.memRead a = at' a.toNat) ∧
    (0x0100 ≤ a.toNat → a.toNat < 0x4000 → s.memRead a = at' a.toNat) ∧
    (0x4000 ≤ a.toNat → a.toNat < 0x8000 → s.memRead a = at' (a.toNat - 0x4000 + b' * 0x4000)) ∧
    (0xA000 ≤ a.toNat → a.toNat < 0xC000 → s.cart.ramEnabled = false → s.memRead a = 0xFF ∧ s.memWrite a v = s)

/-- R101 to R104, R116, R117: each MBC1 register write, by address range, with its diagnostic. That a write which leaves `rom_bank`
alone reports nothing is the model's reading of R117 (log entry 11). -/
def Obligations.Mbc1Registers : Prop :=
  ∀ (s : State) (a : Word) (v : Byte),
    s.cart.ctype = .mbc1 → s.cart.Inv → a.toNat < 0x8000 →
    let n := v.toNat
    let bank := s.cart.romBank.toNat
    let low := if n % 32 = 0 then 1 else n % 32
    s.memWrite a v =
      if a.toNat < 0x2000 then { s with cart := { s.cart with ramEnabled := lowNibbleA v } }
      else if a.toNat < 0x4000 then bankSelected s a v (decide (n % 32 = 0)) (bank / 32 * 32 + low)
      else if a.toNat < 0x6000 then
        if s.cart.bankMode then { s with cart := { s.cart with ramBank := BitVec.ofNat 4 (n % 4) } }
        else bankSelected s a v false (n % 4 * 32 + bank % 32)
      else if n % 2 = 1 then { s with cart := { s.cart with bankMode := true } }
      else { s with cart := { s.cart with bankMode := false, ramBank := 0 } }

/-- R90, R100, R106, R107, R110 to R113, R115 to R117: each register write of the other controllers, by address range, with its
diagnostic; ROM_ONLY ignores every one. That a write which leaves `rom_bank` alone reports nothing is the model's reading of R117
(log entry 11). -/
def Obligations.TheOtherControllersRegisters : Prop :=
  ∀ (s : State) (a : Word) (v : Byte), a.toNat < 0x8000 →
    let n := v.toNat
    let bank := s.cart.romBank.toNat
    let enable := { s with cart := { s.cart with ramEnabled := lowNibbleA v } }
    (s.cart.ctype = .romOnly → s.memWrite a v = s) ∧
    (s.cart.ctype = .mbc2 →
      s.memWrite a v =
        if 0x4000 ≤ a.toNat then s
        else if a.toNat / 256 % 2 = 0 then enable
        else bankSelected s a v (decide (n % 16 = 0)) (if n % 16 = 0 then 1 else n % 16)) ∧
    (s.cart.ctype = .mbc3 →
      s.memWrite a v =
        if a.toNat < 0x2000 then { s with cart := { s.cart with ramEnabled := lowNibbleA v, rtcEnabled := lowNibbleA v } }
        else if a.toNat < 0x4000 then bankSelected s a v (decide (n % 128 = 0)) (if n % 128 = 0 then 1 else n % 128)
        else if a.toNat < 0x6000 then
          if n ≤ 7 then { s with cart := { s.cart with ramBank := BitVec.ofNat 4 n, rtcSelect := none } }
          else if n = 8 then { s with cart := { s.cart with rtcSelect := some .r08 } }
          else if n = 9 then { s with cart := { s.cart with rtcSelect := some .r09 } }
          else if n = 10 then { s with cart := { s.cart with rtcSelect := some .r0A } }
          else if n = 11 then { s with cart := { s.cart with rtcSelect := some .r0B } }
          else if n = 12 then { s with cart := { s.cart with rtcSelect := some .r0C } }
          else s
        else s) ∧
    (s.cart.ctype = .mbc5 →
      s.memWrite a v =
        if a.toNat < 0x2000 then enable
        else if a.toNat < 0x4000 then
          let b := if a.toNat < 0x3000 then bank / 256 * 256 + n else n % 2 * 256 + bank % 256
          bankSelected s a v (decide (b = 0)) (if b = 0 then 1 else b)
        else if a.toNat < 0x6000 then { s with cart := { s.cart with ramBank := BitVec.ofNat 4 (n % 16) } }
        else s)

/-! ### The stack and decimal arithmetic over two instructions -/

/-- R223 to R225, R316, R318: when the two stack bytes are plain RAM, a PUSH followed by a POP moves the one pair into the other and
restores SP, and a CALL followed by a RET restores every register. -/
def Obligations.PushThenPopAndCallThenReturn : Prop :=
  ∀ (s : State) (p q : R16Stk) (a : Word),
    s.MemWf → s.owner (s.cpu.sp - 1) = .ram → s.owner (s.cpu.sp - 2) = .ram →
    (∃ t u, exec (.push p) s = .next t ∧ exec (.pop q) t = .next u ∧ u.cpu = withStk s.cpu (stkValue s.cpu p) q) ∧
    (∃ t u, exec (.callA16 a) s = .next t ∧ exec .ret t = .next u ∧ u.cpu = s.cpu)

/-- R337: on two-digit decimal numbers, ADD then DAA gives the decimal sum modulo 100 with C the decimal carry, and SUB then DAA the
difference modulo 100 with C the decimal borrow. -/
def Obligations.DecimalAdjustIsDecimalArithmetic : Prop :=
  ∀ (s : State) (x y : Nat), x < 100 → y < 100 → s.cpu.a = bcd x →
    (∃ t u, exec (.addAD8 (bcd y)) s = .next t ∧ exec .daa t = .next u ∧
      u.cpu.a = bcd ((x + y) % 100) ∧ cOf u.cpu = decide (100 ≤ x + y)) ∧
    (∃ t u, exec (.subAD8 (bcd y)) s = .next t ∧ exec .daa t = .next u ∧
      u.cpu.a = bcd ((x + 100 - y) % 100) ∧ cOf u.cpu = decide (x < y))

/-! ### Devices (60_exceptions.md) -/

/-- R432, R433: the timer's update is the spec's two loops, run to their end. -/
def Obligations.TimerUpdateIsTheSpecsLoops : Prop :=
  ∀ (s : State) (c k : Nat), s.timer.divCounter + c ≤ k → s.timer.timaCounter + c ≤ k → s.timerUpdate c = timerLoops k s c

/-- R455, R456, R458: with the LCD on, c cycles move the PPU c places through its frame of 70,224 cycles, 456 a line, and leave in
STAT the mode of the new place; with the LCD off, an update of any length sets mode 0, LY 0 and `dot` 0 and does nothing else. -/
def Obligations.ThePpuAdvancesThroughItsFrame : Prop :=
  ∀ (s : State) (c : Nat),
    let t := s.ppuUpdate c
    (s.ppu.lcdc.getLsbD 7 = true → s.ppu.ly.toNat < 154 → s.ppu.dot < 456 → 0 < c →
      framePlace t.ppu = (framePlace s.ppu + c) % 70224 ∧ t.ppu.ly.toNat < 154 ∧ t.ppu.dot < 456 ∧
        t.ppu.stat.toNat % 4 = modeAt t.ppu.ly.toNat t.ppu.dot) ∧
    (s.ppu.lcdc.getLsbD 7 = false →
      t = { s with ppu := { s.ppu with stat := byte (s.ppu.stat.toNat / 4 * 4), ly := 0, dot := 0 } })

/-- R455, R457: a tick requests V-Blank exactly on entering mode 1, and the LCD interrupt exactly on a new LY that equals LYC with STAT
bit 6, or on entering mode 0, 1 or 2 with STAT bit 3, 4 or 5; the coincidence flag changes only with LY. -/
def Obligations.PpuInterruptEdges : Prop :=
  ∀ (s : State), s.ppu.ly.toNat < 154 → s.ppu.dot < 456 →
    let t := s.ppuTick
    let line := s.ppu.dot = 455
    let ly := if line then (s.ppu.ly.toNat + 1) % 154 else s.ppu.ly.toNat
    let dot := if line then 0 else s.ppu.dot + 1
    let entered (m : Nat) := modeAt ly dot = m ∧ s.ppu.stat.toNat % 4 ≠ m
    let meets := line ∧ s.ppu.lyc.toNat = ly
    let lcd := (meets ∧ s.ppu.stat.getLsbD 6 = true) ∨ (entered 0 ∧ s.ppu.stat.getLsbD 3 = true) ∨
      (entered 1 ∧ s.ppu.stat.getLsbD 4 = true) ∨ (entered 2 ∧ s.ppu.stat.getLsbD 5 = true)
    t.ppu.ly.toNat = ly ∧ t.ppu.dot = dot ∧
    t.iflag = s.iflag ||| (if entered 1 then 0x01 else 0x00) ||| (if lcd then 0x02 else 0x00) ∧
    t.ppu.stat.getLsbD 2 = (if line then decide (s.ppu.lyc.toNat = ly) else s.ppu.stat.getLsbD 2)

/-- R460, R461, R451, R465, R466: with sprites off, column x of a rendered line is the pixel the background and window rule gives. -/
def Obligations.ARenderedLineWithoutSprites : Prop :=
  ∀ (par : Params) (p : Ppu) (ly x : Nat), ly < 144 → x < 160 → p.lcdc.getLsbD 1 = false →
    (renderRow par p ly)[x]? = some (bgPixel par p ly x).2

/-- R462, R463: with sprites on, the sprite with the lowest OAM index that shows at a column wins, and where none shows the
background or window does. -/
def Obligations.TheLowestOamIndexWins : Prop :=
  ∀ (par : Params) (p : Ppu) (ly x : Nat), ly < 144 → x < 160 → p.lcdc.getLsbD 1 = true →
    let bg := bgPixel par p ly x
    (renderRow par p ly)[x]? = some (((List.range 40).findSome? fun n => spritePixel par p bg.1 ly n x).getD bg.2)

/-- R455, R460, R466: the tick that enters mode 0, on a line 0 to 143 at `dot` 252 to 455, renders line LY into the framebuffer and no other
line; every other tick, at the end of a line and on the lines 144 to 153 too, leaves every pixel. -/
def Obligations.ATickRendersOnEnteringHblank : Prop :=
  ∀ (s : State) (y x : Nat), s.ppu.ly.toNat < 154 → s.ppu.dot < 456 → y < 144 → x < 160 →
    let enters := s.ppu.ly.toNat < 144 ∧ 252 ≤ s.ppu.dot + 1 ∧ s.ppu.dot + 1 < 456 ∧ s.ppu.stat.toNat % 4 ≠ 0
    (enters → y = s.ppu.ly.toNat → some (s.ppuTick.ppu.pixel y x) = (renderRow s.par s.ppu y)[x]?) ∧
    (¬ (enters ∧ y = s.ppu.ly.toNat) → s.ppuTick.ppu.pixel y x = s.ppu.pixel y x)

/-- R435, R437: the joypad register shows a selected group's keys with 0 for a pressed one. A key press makes that key's mask bit 0,
requests the Joypad interrupt and clears `stop`; a release makes it 1 and clears the request; the other seven keys' mask bits, the latch
and the rest of the machine are kept. -/
def Obligations.TheJoypad : Prop :=
  ∀ (s : State) (k : Key),
    (∀ i, i < 4 → (s.memRead 0xFF00).getLsbD i =
      ((s.joy.latch.getLsbD 0 || s.joy.dirMask.getLsbD i) && (s.joy.latch.getLsbD 1 || s.joy.btnMask.getLsbD i))) ∧
    (s.memRead 0xFF00).toNat / 16 = 12 + s.joy.latch.toNat ∧
    (∃ j, s.keyPress k = { s with joy := j, iflag := s.iflag ||| 0x10, cpu := { s.cpu with stop := false } } ∧
      j.latch = s.joy.latch ∧ ∀ q, maskOf j q = if q = k then false else maskOf s.joy q) ∧
    (∃ j, s.keyRelease k = { s with joy := j, iflag := s.iflag &&& 0xEF } ∧
      j.latch = s.joy.latch ∧ ∀ q, maskOf j q = if q = k then true else maskOf s.joy q)

/-! ### Reset (10_state.md) -/

/-- R42, R44, R45, R47, R49, R50, R51, R52, R96, R97: what reset leaves, for any cartridge and any parameters without a boot ROM: the CPU's
published values, the interrupt registers, every register of the PPU, the timer and the joypad, the controller and its kind, the empty
diagnostics (or the one event of an unsupported cartridge), and the byte of every plain I/O address. TAC, VBK and BCPS are stored without
their constant bits (log entry 16); their reads show them. -/
def Obligations.WhatResetLeaves : Prop :=
  ∀ (p : Params) (rom : Rom), p.bootRom = none →
    let s := State.resetWith p rom
    s.cpu = { a := if p.colorMode then 0x11 else 0x01, f := 0xB0, b := 0x00, c := 0x13, d := 0x00, e := 0xD8, h := 0x01,
              l := 0x4D, sp := 0xFFFE, pc := 0x0100, ime := false, imePending := false, halt := false, stop := false } ∧
    s.stepCycles = 0 ∧ s.totalCycles = 0 ∧ s.booting = false ∧
    s.iflag = 0xE1 ∧ s.ie = 0x00 ∧
    s.ppu.lcdc = 0x91 ∧ s.ppu.stat = 0x85 ∧ s.ppu.scy = 0 ∧ s.ppu.scx = 0 ∧ s.ppu.ly = 0 ∧ s.ppu.lyc = 0 ∧ s.ppu.dma = 0xFF ∧
    s.ppu.bgp = 0xFC ∧ s.ppu.obp0 = 0xFF ∧ s.ppu.obp1 = 0xFF ∧ s.ppu.wy = 0 ∧ s.ppu.wx = 0 ∧ s.ppu.vbk = false ∧ s.ppu.bcps = 0 ∧
    s.ppu.dot = 0 ∧
    s.timer.div = 0xAB ∧ s.timer.tima = 0 ∧ s.timer.tma = 0 ∧ s.timer.tac = 0 ∧ s.timer.divCounter = 0 ∧ s.timer.timaCounter = 0 ∧
    s.joy.latch = 0 ∧ s.joy.dirMask = 0xF ∧ s.joy.btnMask = 0xF ∧
    s.cart.rom = rom ∧ s.cart.romBank = 1 ∧ s.cart.ramBank = 0 ∧ s.cart.ramEnabled = false ∧ s.cart.bankMode = false ∧
    s.cart.rtcEnabled = false ∧ s.cart.rtcSelect = none ∧ s.cart.rtc = ⟨0, 0, 0, 0, 0⟩ ∧
    s.cart.ctype = (kinds.lookup (rom.read 0x147)).getD .romOnly ∧
    s.diag = (if (kinds.lookup (rom.read 0x147)).isSome then [] else [.unsupportedCartridge (rom.read 0x147)]) ∧
    s.memRead 0xFF07 = 0xF8 ∧ (p.colorMode = true → s.memRead 0xFF4F = 0xFE ∧ s.memRead 0xFF68 = 0x40) ∧
    ∀ a : Word, plainIo p.colorMode a.toNat → s.memRead a = resetByte a.toNat
end

