-- ==== Sys2Proof/Laws/Bits.lean ====
section
/-!
SUPPORT. Bytes and words: joining and splitting, the flag byte, and single bits.
-/

namespace Sys2Proof.Machine

theorem word16_toNat (h l : Byte) : (word16 h l).toNat = h.toNat * 256 + l.toNat := by
  have e : (word16 h l).toNat = h.toNat <<< 8 ||| l.toNat := BitVec.toNat_append h l
  rw [e, ← Nat.shiftLeft_add_eq_or_of_lt l.isLt, Nat.shiftLeft_eq]

theorem loByte_toNat (v : Word) : (loByte v).toNat = v.toNat % 256 := by
  simp [loByte, BitVec.extractLsb'_toNat]

theorem hiByte_toNat (v : Word) : (hiByte v).toNat = v.toNat / 256 := by
  have := v.isLt
  simp only [hiByte, BitVec.extractLsb'_toNat, Nat.shiftRight_eq_div_pow]
  omega

@[simp] theorem hiByte_word16 (h l : Byte) : hiByte (word16 h l) = h := by
  apply BitVec.eq_of_toNat_eq
  have := l.isLt
  rw [hiByte_toNat, word16_toNat]
  omega

@[simp] theorem loByte_word16 (h l : Byte) : loByte (word16 h l) = l := by
  apply BitVec.eq_of_toNat_eq
  have := l.isLt
  rw [loByte_toNat, word16_toNat]
  omega

@[simp] theorem word16_hiByte_loByte (v : Word) : word16 (hiByte v) (loByte v) = v := by
  apply BitVec.eq_of_toNat_eq
  rw [word16_toNat, loByte_toNat, hiByte_toNat]
  omega

/-! ### The flag byte -/

@[simp] theorem bitOf_packF_7 (z n h c : Bool) : bitOf (packF z n h c) 7 = z := by
  cases z <;> cases n <;> cases h <;> cases c <;> rfl

@[simp] theorem bitOf_packF_6 (z n h c : Bool) : bitOf (packF z n h c) 6 = n := by
  cases z <;> cases n <;> cases h <;> cases c <;> rfl

@[simp] theorem bitOf_packF_5 (z n h c : Bool) : bitOf (packF z n h c) 5 = h := by
  cases z <;> cases n <;> cases h <;> cases c <;> rfl

@[simp] theorem bitOf_packF_4 (z n h c : Bool) : bitOf (packF z n h c) 4 = c := by
  cases z <;> cases n <;> cases h <;> cases c <;> rfl

@[simp] theorem packF_low (z n h c : Bool) : packF z n h c &&& 0x0F = 0 := by
  cases z <;> cases n <;> cases h <;> cases c <;> rfl

@[simp] theorem maskF_low (v : Byte) : maskF v &&& 0x0F = 0 := by
  revert v
  decide

theorem maskF_of_low (v : Byte) (h : v &&& 0x0F = 0) : maskF v = v := by
  revert v
  decide

/-! ### Single bits -/

theorem bitOf_withBit (v : Byte) (b i : Nat) (hb : b < 8) : bitOf (withBit v b) i = (bitOf v i || decide (i = b)) := by
  by_cases hi : i < 8
  · simp only [bitOf, withBit, BitVec.getLsbD_or, BitVec.getLsbD_shiftLeft, BitVec.getLsbD_one]
    by_cases h : i = b
    · subst h; simp [hi]
    · by_cases hlt : i < b
      · simp [h, hlt]
      · have : ¬ (i - b = 0) := by omega
        simp [h, this]
  · have h : i ≠ b := by omega
    have hg (w : Byte) : bitOf w i = false := BitVec.getLsbD_of_ge w i (by omega)
    simp [hg, h]

theorem bitOf_withoutBit (v : Byte) (b i : Nat) (hb : b < 8) :
    bitOf (withoutBit v b) i = (bitOf v i && !decide (i = b)) := by
  by_cases hi : i < 8
  · simp only [bitOf, withoutBit, BitVec.getLsbD_and, BitVec.getLsbD_not, BitVec.getLsbD_shiftLeft, BitVec.getLsbD_one]
    by_cases h : i = b
    · subst h; simp
    · by_cases hlt : i < b
      · simp [h, hlt, hi]
      · have : ¬ (i - b = 0) := by omega
        simp [h, this, hi]
  · have hg (w : Byte) : bitOf w i = false := BitVec.getLsbD_of_ge w i (by omega)
    simp [hg]

end Sys2Proof.Machine
end

