-- ==== Sys2Proof/Laws/Decode.lean ====
section
/-!
SUPPORT. The decoder by the format of the first byte (30_encoding.md R150): what each format consumes and yields.
-/

namespace Sys2Proof

open Machine (word16 loByte hiByte)

theorem decode_op {op : Byte} {i : Instr} (h : baseFormat op = .op i) (rest : List Byte) : decode (op :: rest) = .ok (i, rest) := by
  simp only [decode, h]

theorem decode_imm8 {op : Byte} {f : Byte → Instr} (h : baseFormat op = .imm8 f) (n : Byte) (rest : List Byte) :
    decode (op :: n :: rest) = .ok (f n, rest) := by
  simp only [decode, h]

/-- The immediate's low byte comes first (30_encoding.md R158). -/
theorem decode_imm16 {op : Byte} {f : Word → Instr} (h : baseFormat op = .imm16 f) (lo hi : Byte) (rest : List Byte) :
    decode (op :: lo :: hi :: rest) = .ok (f (word16 hi lo), rest) := by
  simp only [decode, h]

/-- A 16-bit immediate laid out low byte first reads back whole. -/
theorem decode_word {op : Byte} {f : Word → Instr} (h : baseFormat op = .imm16 f) (a : Word) (rest : List Byte) :
    decode (op :: loByte a :: hiByte a :: rest) = .ok (f a, rest) := by
  rw [decode_imm16 h, Machine.word16_hiByte_loByte]

theorem decode_cb {op : Byte} (h : baseFormat op = .cb) (cb : Byte) (rest : List Byte) :
    decode (op :: cb :: rest) = .ok (decodeCb cb, rest) := by
  simp only [decode, h]

end Sys2Proof
end

