-- ==== Sys2Proof/Laws/Mem.lean ====
section
/-!
SUPPORT. Memories as sorted lists: reading after `put`, `erase` and `write`, and the canonical form each of them keeps.
-/

namespace Sys2Proof.Machine

/-- Every listed address lies above k. -/
def Mem.above (k : Nat) (m : Mem) : Prop := ∀ c ∈ m, k < c.1

theorem Mem.wf_cons (bound : Nat) (dflt : Nat → Option Byte) (k : Nat) (v : Byte) (m : Mem) :
    Mem.wf bound dflt ((k, v) :: m) = true ↔
      k < bound ∧ dflt k ≠ some v ∧ Mem.above k m ∧ Mem.wf bound dflt m = true := by
  simp only [Mem.wf, Mem.above, Bool.and_eq_true, decide_eq_true_eq, List.all_eq_true]
  tauto

@[simp] theorem Mem.wf_nil (bound : Nat) (dflt : Nat → Option Byte) : Mem.wf bound dflt [] = true := rfl

/-- An address below every listed one is unlisted. -/
theorem Mem.get?_of_above {k a : Nat} {m : Mem} (h : Mem.above k m) (ha : a ≤ k) : m.get? a = none := by
  induction m with
  | nil => rfl
  | cons c m ih =>
    obtain ⟨q, w⟩ := c
    have hq : k < q := h (q, w) (by simp)
    have : a ≠ q := by omega
    simp only [Mem.get?, this, if_false]
    exact ih fun c hc => h c (by simp [hc])

/-- Reading after listing a byte. -/
theorem Mem.get?_put (m : Mem) (a b : Nat) (v : Byte) : (m.put a v).get? b = if b = a then some v else m.get? b := by
  induction m with
  | nil => simp [Mem.put, Mem.get?]
  | cons c m ih =>
    obtain ⟨k, w⟩ := c
    simp only [Mem.put]
    split
    · simp [Mem.get?]
    · split
      · subst_vars
        by_cases h : b = k <;> simp [Mem.get?, h]
      · by_cases h : b = k
        · have : b ≠ a := by omega
          simp [Mem.get?, h]
          intro h'; omega
        · simp [Mem.get?, h, ih]

/-- Reading after unlisting an address. -/
theorem Mem.get?_erase (bound : Nat) (dflt : Nat → Option Byte) (m : Mem) (a b : Nat) (h : Mem.wf bound dflt m = true) :
    (m.erase a).get? b = if b = a then none else m.get? b := by
  induction m with
  | nil => simp [Mem.erase, Mem.get?]
  | cons c m ih =>
    obtain ⟨k, w⟩ := c
    obtain ⟨-, -, hk, hm⟩ := (Mem.wf_cons ..).1 h
    simp only [Mem.erase]
    split
    · subst_vars
      by_cases hb : b = k
      · subst hb; simp [Mem.get?_of_above hk (Nat.le_refl _)]
      · simp [Mem.get?, hb]
    · by_cases hb : b = k
      · have : b ≠ a := by omega
        simp [Mem.get?, hb]
        intro h'; omega
      · simp [Mem.get?, hb, ih hm]

/-- Reading the written address after a write. -/
theorem Mem.get?_write_same (bound : Nat) (dflt : Nat → Option Byte) (m : Mem) (a : Nat) (v : Byte)
    (h : Mem.wf bound dflt m = true) : (m.write (dflt a) a v).get? a = if dflt a = some v then none else some v := by
  unfold Mem.write
  split
  · simp [Mem.get?_erase bound dflt m a a h]
  · simp [Mem.get?_put]

/-- Reading another address after a write. -/
theorem Mem.get?_write_ne (bound : Nat) (dflt : Nat → Option Byte) (m : Mem) (o : Option Byte) (a b : Nat) (v : Byte)
    (h : Mem.wf bound dflt m = true) (hb : b ≠ a) : (m.write o a v).get? b = m.get? b := by
  unfold Mem.write
  split
  · simp [Mem.get?_erase bound dflt m a b h, hb]
  · simp [Mem.get?_put, hb]

/-- A write where an unlisted address has no known value lists the byte. -/
@[simp] theorem Mem.get?_write_none (m : Mem) (a b : Nat) (v : Byte) :
    (m.write none a v).get? b = if b = a then some v else m.get? b := by
  simp [Mem.write, Mem.get?_put]

theorem Mem.above_put {k : Nat} {m : Mem} {a : Nat} {v : Byte} (h : Mem.above k m) (ha : k < a) : Mem.above k (m.put a v) := by
  induction m with
  | nil =>
    intro c hc
    simp only [Mem.put, List.mem_singleton] at hc
    subst hc; exact ha
  | cons q m ih =>
    obtain ⟨j, w⟩ := q
    have hj : k < j := h (j, w) (by simp)
    have hm : Mem.above k m := fun c hc => h c (by simp [hc])
    intro c hc
    simp only [Mem.put] at hc
    split at hc
    · rcases List.mem_cons.1 hc with rfl | hc
      · exact ha
      · exact h c hc
    · split at hc
      · rcases List.mem_cons.1 hc with rfl | hc
        · exact ha
        · exact hm c hc
      · rcases List.mem_cons.1 hc with rfl | hc
        · exact hj
        · exact ih hm c hc

theorem Mem.above_erase {k : Nat} {m : Mem} {a : Nat} (h : Mem.above k m) : Mem.above k (m.erase a) := by
  induction m with
  | nil => exact h
  | cons q m ih =>
    obtain ⟨j, w⟩ := q
    have hm : Mem.above k m := fun c hc => h c (by simp [hc])
    intro c hc
    simp only [Mem.erase] at hc
    split at hc
    · exact hm c hc
    · rcases List.mem_cons.1 hc with rfl | hc
      · exact h _ (by simp)
      · exact ih hm c hc

/-- Listing a byte keeps the canonical form. -/
theorem Mem.wf_put {bound : Nat} {dflt : Nat → Option Byte} {m : Mem} {a : Nat} {v : Byte} (h : Mem.wf bound dflt m = true)
    (ha : a < bound) (hv : dflt a ≠ some v) : Mem.wf bound dflt (m.put a v) = true := by
  induction m with
  | nil => exact (Mem.wf_cons ..).2 ⟨ha, hv, by simp [Mem.above], rfl⟩
  | cons q m ih =>
    obtain ⟨k, w⟩ := q
    obtain ⟨hk, hw, hab, hm⟩ := (Mem.wf_cons ..).1 h
    simp only [Mem.put]
    split
    · rename_i hlt
      refine (Mem.wf_cons ..).2 ⟨ha, hv, ?_, h⟩
      intro c hc
      rcases List.mem_cons.1 hc with rfl | hc
      · exact hlt
      · exact Nat.lt_trans hlt (hab c hc)
    · split
      · rename_i he
        subst he
        exact (Mem.wf_cons ..).2 ⟨ha, hv, hab, hm⟩
      · exact (Mem.wf_cons ..).2 ⟨hk, hw, Mem.above_put hab (by omega), ih hm⟩

/-- Unlisting an address keeps the canonical form. -/
theorem Mem.wf_erase {bound : Nat} {dflt : Nat → Option Byte} {m : Mem} (a : Nat) (h : Mem.wf bound dflt m = true) :
    Mem.wf bound dflt (m.erase a) = true := by
  induction m with
  | nil => rfl
  | cons q m ih =>
    obtain ⟨k, w⟩ := q
    obtain ⟨hk, hw, hab, hm⟩ := (Mem.wf_cons ..).1 h
    simp only [Mem.erase]
    split
    · exact hm
    · exact (Mem.wf_cons ..).2 ⟨hk, hw, Mem.above_erase hab, ih hm⟩

/-- A write keeps the canonical form. -/
theorem Mem.wf_write {bound : Nat} {dflt : Nat → Option Byte} {m : Mem} {a : Nat} (v : Byte) (h : Mem.wf bound dflt m = true)
    (ha : a < bound) : Mem.wf bound dflt (m.write (dflt a) a v) = true := by
  unfold Mem.write
  split
  · exact Mem.wf_erase a h
  · exact Mem.wf_put h ha ‹_›

/-- Two memories in canonical form with the same listed bytes are the same list. -/
theorem Mem.eq_of_get? {bound : Nat} {dflt : Nat → Option Byte} {m n : Mem} (hm : Mem.wf bound dflt m = true)
    (hn : Mem.wf bound dflt n = true) (h : ∀ a, m.get? a = n.get? a) : m = n := by
  induction m generalizing n with
  | nil =>
    cases n with
    | nil => rfl
    | cons q n =>
      obtain ⟨k, w⟩ := q
      have := h k
      simp [Mem.get?] at this
  | cons q m ih =>
    obtain ⟨k, w⟩ := q
    obtain ⟨-, -, hab, hm'⟩ := (Mem.wf_cons ..).1 hm
    cases n with
    | nil =>
      have := h k
      simp [Mem.get?] at this
    | cons p n =>
      obtain ⟨j, u⟩ := p
      obtain ⟨-, -, hab', hn'⟩ := (Mem.wf_cons ..).1 hn
      have hkj : k = j := by
        by_contra hne
        rcases Nat.lt_or_gt_of_ne hne with hlt | hgt
        · have := h k
          rw [Mem.get?, if_pos rfl, Mem.get?, if_neg hne, Mem.get?_of_above hab' (by omega)] at this
          simp at this
        · have := h j
          rw [Mem.get?, if_neg (Ne.symm hne), Mem.get?, if_pos rfl, Mem.get?_of_above hab (by omega)] at this
          simp at this
      subst hkj
      have hwu : w = u := by
        have := h k
        simpa [Mem.get?] using this
      subst hwu
      refine congrArg _ (ih hm' hn' fun a => ?_)
      by_cases ha : a = k
      · subst ha
        rw [Mem.get?_of_above hab (Nat.le_refl _), Mem.get?_of_above hab' (Nat.le_refl _)]
      · have := h a
        simpa [Mem.get?, ha] using this

end Sys2Proof.Machine
end

