-- ==== Sys2Proof/Laws/State.lean ====
section
/-!
SUPPORT. The named updates of the state, field by field: one lemma per field per update, so that no later proof unfolds a
record update.
-/

namespace Sys2Proof.Machine

/-! ### `State.withCycles` -/

@[simp] theorem State.withCycles_par (s : State) (n : Nat) : (s.withCycles n).par = s.par := rfl
@[simp] theorem State.withCycles_cpu (s : State) (n : Nat) : (s.withCycles n).cpu = s.cpu := rfl
@[simp] theorem State.withCycles_cart (s : State) (n : Nat) : (s.withCycles n).cart = s.cart := rfl
@[simp] theorem State.withCycles_ppu (s : State) (n : Nat) : (s.withCycles n).ppu = s.ppu := rfl
@[simp] theorem State.withCycles_timer (s : State) (n : Nat) : (s.withCycles n).timer = s.timer := rfl
@[simp] theorem State.withCycles_joy (s : State) (n : Nat) : (s.withCycles n).joy = s.joy := rfl
@[simp] theorem State.withCycles_mem (s : State) (n : Nat) : (s.withCycles n).mem = s.mem := rfl
@[simp] theorem State.withCycles_booting (s : State) (n : Nat) : (s.withCycles n).booting = s.booting := rfl
@[simp] theorem State.withCycles_iflag (s : State) (n : Nat) : (s.withCycles n).iflag = s.iflag := rfl
@[simp] theorem State.withCycles_ie (s : State) (n : Nat) : (s.withCycles n).ie = s.ie := rfl
@[simp] theorem State.withCycles_stepCycles (s : State) (n : Nat) : (s.withCycles n).stepCycles = n := rfl
@[simp] theorem State.withCycles_totalCycles (s : State) (n : Nat) : (s.withCycles n).totalCycles = s.totalCycles := rfl
@[simp] theorem State.withCycles_diag (s : State) (n : Nat) : (s.withCycles n).diag = s.diag := rfl

/-! ### `State.setPc` -/

@[simp] theorem State.setPc_par (s : State) (v : Word) : (s.setPc v).par = s.par := rfl
@[simp] theorem State.setPc_cpu (s : State) (v : Word) : (s.setPc v).cpu = { s.cpu with pc := v } := rfl
@[simp] theorem State.setPc_cart (s : State) (v : Word) : (s.setPc v).cart = s.cart := rfl
@[simp] theorem State.setPc_ppu (s : State) (v : Word) : (s.setPc v).ppu = s.ppu := rfl
@[simp] theorem State.setPc_timer (s : State) (v : Word) : (s.setPc v).timer = s.timer := rfl
@[simp] theorem State.setPc_joy (s : State) (v : Word) : (s.setPc v).joy = s.joy := rfl
@[simp] theorem State.setPc_mem (s : State) (v : Word) : (s.setPc v).mem = s.mem := rfl
@[simp] theorem State.setPc_booting (s : State) (v : Word) : (s.setPc v).booting = s.booting := rfl
@[simp] theorem State.setPc_iflag (s : State) (v : Word) : (s.setPc v).iflag = s.iflag := rfl
@[simp] theorem State.setPc_ie (s : State) (v : Word) : (s.setPc v).ie = s.ie := rfl
@[simp] theorem State.setPc_stepCycles (s : State) (v : Word) : (s.setPc v).stepCycles = s.stepCycles := rfl
@[simp] theorem State.setPc_totalCycles (s : State) (v : Word) : (s.setPc v).totalCycles = s.totalCycles := rfl
@[simp] theorem State.setPc_diag (s : State) (v : Word) : (s.setPc v).diag = s.diag := rfl

/-! ### `State.setSp` -/

@[simp] theorem State.setSp_par (s : State) (v : Word) : (s.setSp v).par = s.par := rfl
@[simp] theorem State.setSp_cpu (s : State) (v : Word) : (s.setSp v).cpu = { s.cpu with sp := v } := rfl
@[simp] theorem State.setSp_cart (s : State) (v : Word) : (s.setSp v).cart = s.cart := rfl
@[simp] theorem State.setSp_ppu (s : State) (v : Word) : (s.setSp v).ppu = s.ppu := rfl
@[simp] theorem State.setSp_timer (s : State) (v : Word) : (s.setSp v).timer = s.timer := rfl
@[simp] theorem State.setSp_joy (s : State) (v : Word) : (s.setSp v).joy = s.joy := rfl
@[simp] theorem State.setSp_mem (s : State) (v : Word) : (s.setSp v).mem = s.mem := rfl
@[simp] theorem State.setSp_booting (s : State) (v : Word) : (s.setSp v).booting = s.booting := rfl
@[simp] theorem State.setSp_iflag (s : State) (v : Word) : (s.setSp v).iflag = s.iflag := rfl
@[simp] theorem State.setSp_ie (s : State) (v : Word) : (s.setSp v).ie = s.ie := rfl
@[simp] theorem State.setSp_stepCycles (s : State) (v : Word) : (s.setSp v).stepCycles = s.stepCycles := rfl
@[simp] theorem State.setSp_totalCycles (s : State) (v : Word) : (s.setSp v).totalCycles = s.totalCycles := rfl
@[simp] theorem State.setSp_diag (s : State) (v : Word) : (s.setSp v).diag = s.diag := rfl

/-! ### `State.setReg` -/

@[simp] theorem State.setReg_par (s : State) (r : Reg8) (v : Byte) : (s.setReg r v).par = s.par := rfl
@[simp] theorem State.setReg_cpu (s : State) (r : Reg8) (v : Byte) : (s.setReg r v).cpu = s.cpu.setReg v r := rfl
@[simp] theorem State.setReg_cart (s : State) (r : Reg8) (v : Byte) : (s.setReg r v).cart = s.cart := rfl
@[simp] theorem State.setReg_ppu (s : State) (r : Reg8) (v : Byte) : (s.setReg r v).ppu = s.ppu := rfl
@[simp] theorem State.setReg_timer (s : State) (r : Reg8) (v : Byte) : (s.setReg r v).timer = s.timer := rfl
@[simp] theorem State.setReg_joy (s : State) (r : Reg8) (v : Byte) : (s.setReg r v).joy = s.joy := rfl
@[simp] theorem State.setReg_mem (s : State) (r : Reg8) (v : Byte) : (s.setReg r v).mem = s.mem := rfl
@[simp] theorem State.setReg_booting (s : State) (r : Reg8) (v : Byte) : (s.setReg r v).booting = s.booting := rfl
@[simp] theorem State.setReg_iflag (s : State) (r : Reg8) (v : Byte) : (s.setReg r v).iflag = s.iflag := rfl
@[simp] theorem State.setReg_ie (s : State) (r : Reg8) (v : Byte) : (s.setReg r v).ie = s.ie := rfl
@[simp] theorem State.setReg_stepCycles (s : State) (r : Reg8) (v : Byte) : (s.setReg r v).stepCycles = s.stepCycles := rfl
@[simp] theorem State.setReg_totalCycles (s : State) (r : Reg8) (v : Byte) : (s.setReg r v).totalCycles = s.totalCycles := rfl
@[simp] theorem State.setReg_diag (s : State) (r : Reg8) (v : Byte) : (s.setReg r v).diag = s.diag := rfl

/-! ### `State.setF` -/

@[simp] theorem State.setF_par (s : State) (v : Byte) : (s.setF v).par = s.par := rfl
@[simp] theorem State.setF_cpu (s : State) (v : Byte) : (s.setF v).cpu = { s.cpu with f := maskF v } := rfl
@[simp] theorem State.setF_cart (s : State) (v : Byte) : (s.setF v).cart = s.cart := rfl
@[simp] theorem State.setF_ppu (s : State) (v : Byte) : (s.setF v).ppu = s.ppu := rfl
@[simp] theorem State.setF_timer (s : State) (v : Byte) : (s.setF v).timer = s.timer := rfl
@[simp] theorem State.setF_joy (s : State) (v : Byte) : (s.setF v).joy = s.joy := rfl
@[simp] theorem State.setF_mem (s : State) (v : Byte) : (s.setF v).mem = s.mem := rfl
@[simp] theorem State.setF_booting (s : State) (v : Byte) : (s.setF v).booting = s.booting := rfl
@[simp] theorem State.setF_iflag (s : State) (v : Byte) : (s.setF v).iflag = s.iflag := rfl
@[simp] theorem State.setF_ie (s : State) (v : Byte) : (s.setF v).ie = s.ie := rfl
@[simp] theorem State.setF_stepCycles (s : State) (v : Byte) : (s.setF v).stepCycles = s.stepCycles := rfl
@[simp] theorem State.setF_totalCycles (s : State) (v : Byte) : (s.setF v).totalCycles = s.totalCycles := rfl
@[simp] theorem State.setF_diag (s : State) (v : Byte) : (s.setF v).diag = s.diag := rfl

/-! ### `State.setPair` -/

@[simp] theorem State.setPair_par (s : State) (p : R16) (v : Word) : (s.setPair p v).par = s.par := rfl
@[simp] theorem State.setPair_cpu (s : State) (p : R16) (v : Word) : (s.setPair p v).cpu = s.cpu.setPair v p := rfl
@[simp] theorem State.setPair_cart (s : State) (p : R16) (v : Word) : (s.setPair p v).cart = s.cart := rfl
@[simp] theorem State.setPair_ppu (s : State) (p : R16) (v : Word) : (s.setPair p v).ppu = s.ppu := rfl
@[simp] theorem State.setPair_timer (s : State) (p : R16) (v : Word) : (s.setPair p v).timer = s.timer := rfl
@[simp] theorem State.setPair_joy (s : State) (p : R16) (v : Word) : (s.setPair p v).joy = s.joy := rfl
@[simp] theorem State.setPair_mem (s : State) (p : R16) (v : Word) : (s.setPair p v).mem = s.mem := rfl
@[simp] theorem State.setPair_booting (s : State) (p : R16) (v : Word) : (s.setPair p v).booting = s.booting := rfl
@[simp] theorem State.setPair_iflag (s : State) (p : R16) (v : Word) : (s.setPair p v).iflag = s.iflag := rfl
@[simp] theorem State.setPair_ie (s : State) (p : R16) (v : Word) : (s.setPair p v).ie = s.ie := rfl
@[simp] theorem State.setPair_stepCycles (s : State) (p : R16) (v : Word) : (s.setPair p v).stepCycles = s.stepCycles := rfl
@[simp] theorem State.setPair_totalCycles (s : State) (p : R16) (v : Word) : (s.setPair p v).totalCycles = s.totalCycles := rfl
@[simp] theorem State.setPair_diag (s : State) (p : R16) (v : Word) : (s.setPair p v).diag = s.diag := rfl

/-! ### `State.setStackPair` -/

@[simp] theorem State.setStackPair_par (s : State) (p : R16Stk) (v : Word) : (s.setStackPair p v).par = s.par := rfl
@[simp] theorem State.setStackPair_cpu (s : State) (p : R16Stk) (v : Word) : (s.setStackPair p v).cpu = s.cpu.setStackPair v p := rfl
@[simp] theorem State.setStackPair_cart (s : State) (p : R16Stk) (v : Word) : (s.setStackPair p v).cart = s.cart := rfl
@[simp] theorem State.setStackPair_ppu (s : State) (p : R16Stk) (v : Word) : (s.setStackPair p v).ppu = s.ppu := rfl
@[simp] theorem State.setStackPair_timer (s : State) (p : R16Stk) (v : Word) : (s.setStackPair p v).timer = s.timer := rfl
@[simp] theorem State.setStackPair_joy (s : State) (p : R16Stk) (v : Word) : (s.setStackPair p v).joy = s.joy := rfl
@[simp] theorem State.setStackPair_mem (s : State) (p : R16Stk) (v : Word) : (s.setStackPair p v).mem = s.mem := rfl
@[simp] theorem State.setStackPair_booting (s : State) (p : R16Stk) (v : Word) : (s.setStackPair p v).booting = s.booting := rfl
@[simp] theorem State.setStackPair_iflag (s : State) (p : R16Stk) (v : Word) : (s.setStackPair p v).iflag = s.iflag := rfl
@[simp] theorem State.setStackPair_ie (s : State) (p : R16Stk) (v : Word) : (s.setStackPair p v).ie = s.ie := rfl
@[simp] theorem State.setStackPair_stepCycles (s : State) (p : R16Stk) (v : Word) : (s.setStackPair p v).stepCycles = s.stepCycles := rfl
@[simp] theorem State.setStackPair_totalCycles (s : State) (p : R16Stk) (v : Word) : (s.setStackPair p v).totalCycles = s.totalCycles := rfl
@[simp] theorem State.setStackPair_diag (s : State) (p : R16Stk) (v : Word) : (s.setStackPair p v).diag = s.diag := rfl

/-! ### `State.setFlags` -/

@[simp] theorem State.setFlags_par (s : State) (z n h c : Bool) : (s.setFlags z n h c).par = s.par := rfl
@[simp] theorem State.setFlags_cpu (s : State) (z n h c : Bool) : (s.setFlags z n h c).cpu = { s.cpu with f := packF z n h c } := rfl
@[simp] theorem State.setFlags_cart (s : State) (z n h c : Bool) : (s.setFlags z n h c).cart = s.cart := rfl
@[simp] theorem State.setFlags_ppu (s : State) (z n h c : Bool) : (s.setFlags z n h c).ppu = s.ppu := rfl
@[simp] theorem State.setFlags_timer (s : State) (z n h c : Bool) : (s.setFlags z n h c).timer = s.timer := rfl
@[simp] theorem State.setFlags_joy (s : State) (z n h c : Bool) : (s.setFlags z n h c).joy = s.joy := rfl
@[simp] theorem State.setFlags_mem (s : State) (z n h c : Bool) : (s.setFlags z n h c).mem = s.mem := rfl
@[simp] theorem State.setFlags_booting (s : State) (z n h c : Bool) : (s.setFlags z n h c).booting = s.booting := rfl
@[simp] theorem State.setFlags_iflag (s : State) (z n h c : Bool) : (s.setFlags z n h c).iflag = s.iflag := rfl
@[simp] theorem State.setFlags_ie (s : State) (z n h c : Bool) : (s.setFlags z n h c).ie = s.ie := rfl
@[simp] theorem State.setFlags_stepCycles (s : State) (z n h c : Bool) : (s.setFlags z n h c).stepCycles = s.stepCycles := rfl
@[simp] theorem State.setFlags_totalCycles (s : State) (z n h c : Bool) : (s.setFlags z n h c).totalCycles = s.totalCycles := rfl
@[simp] theorem State.setFlags_diag (s : State) (z n h c : Bool) : (s.setFlags z n h c).diag = s.diag := rfl

/-! ### `State.dropTop` -/

@[simp] theorem State.dropTop_par (s : State) : (s.dropTop).par = s.par := rfl
@[simp] theorem State.dropTop_cpu (s : State) : (s.dropTop).cpu = { s.cpu with sp := s.cpu.sp + 2 } := rfl
@[simp] theorem State.dropTop_cart (s : State) : (s.dropTop).cart = s.cart := rfl
@[simp] theorem State.dropTop_ppu (s : State) : (s.dropTop).ppu = s.ppu := rfl
@[simp] theorem State.dropTop_timer (s : State) : (s.dropTop).timer = s.timer := rfl
@[simp] theorem State.dropTop_joy (s : State) : (s.dropTop).joy = s.joy := rfl
@[simp] theorem State.dropTop_mem (s : State) : (s.dropTop).mem = s.mem := rfl
@[simp] theorem State.dropTop_booting (s : State) : (s.dropTop).booting = s.booting := rfl
@[simp] theorem State.dropTop_iflag (s : State) : (s.dropTop).iflag = s.iflag := rfl
@[simp] theorem State.dropTop_ie (s : State) : (s.dropTop).ie = s.ie := rfl
@[simp] theorem State.dropTop_stepCycles (s : State) : (s.dropTop).stepCycles = s.stepCycles := rfl
@[simp] theorem State.dropTop_totalCycles (s : State) : (s.dropTop).totalCycles = s.totalCycles := rfl
@[simp] theorem State.dropTop_diag (s : State) : (s.dropTop).diag = s.diag := rfl

/-! ### `State.requestIrq` -/

@[simp] theorem State.requestIrq_par (s : State) (i : Nat) : (s.requestIrq i).par = s.par := rfl
@[simp] theorem State.requestIrq_cpu (s : State) (i : Nat) : (s.requestIrq i).cpu = s.cpu := rfl
@[simp] theorem State.requestIrq_cart (s : State) (i : Nat) : (s.requestIrq i).cart = s.cart := rfl
@[simp] theorem State.requestIrq_ppu (s : State) (i : Nat) : (s.requestIrq i).ppu = s.ppu := rfl
@[simp] theorem State.requestIrq_timer (s : State) (i : Nat) : (s.requestIrq i).timer = s.timer := rfl
@[simp] theorem State.requestIrq_joy (s : State) (i : Nat) : (s.requestIrq i).joy = s.joy := rfl
@[simp] theorem State.requestIrq_mem (s : State) (i : Nat) : (s.requestIrq i).mem = s.mem := rfl
@[simp] theorem State.requestIrq_booting (s : State) (i : Nat) : (s.requestIrq i).booting = s.booting := rfl
@[simp] theorem State.requestIrq_iflag (s : State) (i : Nat) : (s.requestIrq i).iflag = withBit s.iflag i := rfl
@[simp] theorem State.requestIrq_ie (s : State) (i : Nat) : (s.requestIrq i).ie = s.ie := rfl
@[simp] theorem State.requestIrq_stepCycles (s : State) (i : Nat) : (s.requestIrq i).stepCycles = s.stepCycles := rfl
@[simp] theorem State.requestIrq_totalCycles (s : State) (i : Nat) : (s.requestIrq i).totalCycles = s.totalCycles := rfl
@[simp] theorem State.requestIrq_diag (s : State) (i : Nat) : (s.requestIrq i).diag = s.diag := rfl

/-! ### `State.addDiag` -/

@[simp] theorem State.addDiag_par (s : State) (e : DiagEvent) : (s.addDiag e).par = s.par := rfl
@[simp] theorem State.addDiag_cpu (s : State) (e : DiagEvent) : (s.addDiag e).cpu = s.cpu := rfl
@[simp] theorem State.addDiag_cart (s : State) (e : DiagEvent) : (s.addDiag e).cart = s.cart := rfl
@[simp] theorem State.addDiag_ppu (s : State) (e : DiagEvent) : (s.addDiag e).ppu = s.ppu := rfl
@[simp] theorem State.addDiag_timer (s : State) (e : DiagEvent) : (s.addDiag e).timer = s.timer := rfl
@[simp] theorem State.addDiag_joy (s : State) (e : DiagEvent) : (s.addDiag e).joy = s.joy := rfl
@[simp] theorem State.addDiag_mem (s : State) (e : DiagEvent) : (s.addDiag e).mem = s.mem := rfl
@[simp] theorem State.addDiag_booting (s : State) (e : DiagEvent) : (s.addDiag e).booting = s.booting := rfl
@[simp] theorem State.addDiag_iflag (s : State) (e : DiagEvent) : (s.addDiag e).iflag = s.iflag := rfl
@[simp] theorem State.addDiag_ie (s : State) (e : DiagEvent) : (s.addDiag e).ie = s.ie := rfl
@[simp] theorem State.addDiag_stepCycles (s : State) (e : DiagEvent) : (s.addDiag e).stepCycles = s.stepCycles := rfl
@[simp] theorem State.addDiag_totalCycles (s : State) (e : DiagEvent) : (s.addDiag e).totalCycles = s.totalCycles := rfl
@[simp] theorem State.addDiag_diag (s : State) (e : DiagEvent) : (s.addDiag e).diag = s.diag ++ [e] := rfl

/-! ### `State.setRam` -/

@[simp] theorem State.setRam_par (s : State) (n : Nat) (v : Byte) : (s.setRam n v).par = s.par := rfl
@[simp] theorem State.setRam_cpu (s : State) (n : Nat) (v : Byte) : (s.setRam n v).cpu = s.cpu := rfl
@[simp] theorem State.setRam_cart (s : State) (n : Nat) (v : Byte) : (s.setRam n v).cart = s.cart := rfl
@[simp] theorem State.setRam_ppu (s : State) (n : Nat) (v : Byte) : (s.setRam n v).ppu = s.ppu := rfl
@[simp] theorem State.setRam_timer (s : State) (n : Nat) (v : Byte) : (s.setRam n v).timer = s.timer := rfl
@[simp] theorem State.setRam_joy (s : State) (n : Nat) (v : Byte) : (s.setRam n v).joy = s.joy := rfl
@[simp] theorem State.setRam_mem (s : State) (n : Nat) (v : Byte) : (s.setRam n v).mem = s.mem.write (memDefault n) n v := rfl
@[simp] theorem State.setRam_booting (s : State) (n : Nat) (v : Byte) : (s.setRam n v).booting = s.booting := rfl
@[simp] theorem State.setRam_iflag (s : State) (n : Nat) (v : Byte) : (s.setRam n v).iflag = s.iflag := rfl
@[simp] theorem State.setRam_ie (s : State) (n : Nat) (v : Byte) : (s.setRam n v).ie = s.ie := rfl
@[simp] theorem State.setRam_stepCycles (s : State) (n : Nat) (v : Byte) : (s.setRam n v).stepCycles = s.stepCycles := rfl
@[simp] theorem State.setRam_totalCycles (s : State) (n : Nat) (v : Byte) : (s.setRam n v).totalCycles = s.totalCycles := rfl
@[simp] theorem State.setRam_diag (s : State) (n : Nat) (v : Byte) : (s.setRam n v).diag = s.diag := rfl

/-! ### `State.setOam` -/

@[simp] theorem State.setOam_par (s : State) (o : Nat) (v : Byte) : (s.setOam o v).par = s.par := rfl
@[simp] theorem State.setOam_cpu (s : State) (o : Nat) (v : Byte) : (s.setOam o v).cpu = s.cpu := rfl
@[simp] theorem State.setOam_cart (s : State) (o : Nat) (v : Byte) : (s.setOam o v).cart = s.cart := rfl
@[simp] theorem State.setOam_ppu (s : State) (o : Nat) (v : Byte) : (s.setOam o v).ppu = { s.ppu with oam := s.ppu.oam.write none o v } := rfl
@[simp] theorem State.setOam_timer (s : State) (o : Nat) (v : Byte) : (s.setOam o v).timer = s.timer := rfl
@[simp] theorem State.setOam_joy (s : State) (o : Nat) (v : Byte) : (s.setOam o v).joy = s.joy := rfl
@[simp] theorem State.setOam_mem (s : State) (o : Nat) (v : Byte) : (s.setOam o v).mem = s.mem := rfl
@[simp] theorem State.setOam_booting (s : State) (o : Nat) (v : Byte) : (s.setOam o v).booting = s.booting := rfl
@[simp] theorem State.setOam_iflag (s : State) (o : Nat) (v : Byte) : (s.setOam o v).iflag = s.iflag := rfl
@[simp] theorem State.setOam_ie (s : State) (o : Nat) (v : Byte) : (s.setOam o v).ie = s.ie := rfl
@[simp] theorem State.setOam_stepCycles (s : State) (o : Nat) (v : Byte) : (s.setOam o v).stepCycles = s.stepCycles := rfl
@[simp] theorem State.setOam_totalCycles (s : State) (o : Nat) (v : Byte) : (s.setOam o v).totalCycles = s.totalCycles := rfl
@[simp] theorem State.setOam_diag (s : State) (o : Nat) (v : Byte) : (s.setOam o v).diag = s.diag := rfl

/-! ### `Cpu.setReg`, `Cpu.setPair`, `Cpu.setStackPair` -/

@[simp] theorem Cpu.setReg_f (c : Cpu) (v : Byte) (r : Reg8) : (c.setReg v r).f = c.f := by cases r <;> rfl
@[simp] theorem Cpu.setReg_sp (c : Cpu) (v : Byte) (r : Reg8) : (c.setReg v r).sp = c.sp := by cases r <;> rfl
@[simp] theorem Cpu.setReg_pc (c : Cpu) (v : Byte) (r : Reg8) : (c.setReg v r).pc = c.pc := by cases r <;> rfl
@[simp] theorem Cpu.setReg_ime (c : Cpu) (v : Byte) (r : Reg8) : (c.setReg v r).ime = c.ime := by cases r <;> rfl
@[simp] theorem Cpu.setReg_imePending (c : Cpu) (v : Byte) (r : Reg8) : (c.setReg v r).imePending = c.imePending := by cases r <;> rfl
@[simp] theorem Cpu.setReg_halt (c : Cpu) (v : Byte) (r : Reg8) : (c.setReg v r).halt = c.halt := by cases r <;> rfl
@[simp] theorem Cpu.setReg_stop (c : Cpu) (v : Byte) (r : Reg8) : (c.setReg v r).stop = c.stop := by cases r <;> rfl

/-- A written register reads back; every other register is kept. -/
theorem Cpu.reg_setReg (c : Cpu) (v : Byte) (r q : Reg8) : (c.setReg v r).reg q = if q = r then v else c.reg q := by
  cases r <;> cases q <;> rfl

@[simp] theorem Cpu.reg_setReg_same (c : Cpu) (v : Byte) (r : Reg8) : (c.setReg v r).reg r = v := by cases r <;> rfl

@[simp] theorem Cpu.setPair_f (c : Cpu) (v : Word) (p : R16) : (c.setPair v p).f = c.f := by cases p <;> rfl
@[simp] theorem Cpu.setPair_pc (c : Cpu) (v : Word) (p : R16) : (c.setPair v p).pc = c.pc := by cases p <;> rfl
@[simp] theorem Cpu.setPair_ime (c : Cpu) (v : Word) (p : R16) : (c.setPair v p).ime = c.ime := by cases p <;> rfl
@[simp] theorem Cpu.setPair_imePending (c : Cpu) (v : Word) (p : R16) : (c.setPair v p).imePending = c.imePending := by cases p <;> rfl
@[simp] theorem Cpu.setPair_halt (c : Cpu) (v : Word) (p : R16) : (c.setPair v p).halt = c.halt := by cases p <;> rfl
@[simp] theorem Cpu.setPair_stop (c : Cpu) (v : Word) (p : R16) : (c.setPair v p).stop = c.stop := by cases p <;> rfl

@[simp] theorem Cpu.setStackPair_sp (c : Cpu) (v : Word) (p : R16Stk) : (c.setStackPair v p).sp = c.sp := by cases p <;> rfl
@[simp] theorem Cpu.setStackPair_pc (c : Cpu) (v : Word) (p : R16Stk) : (c.setStackPair v p).pc = c.pc := by cases p <;> rfl
@[simp] theorem Cpu.setStackPair_ime (c : Cpu) (v : Word) (p : R16Stk) : (c.setStackPair v p).ime = c.ime := by cases p <;> rfl
@[simp] theorem Cpu.setStackPair_imePending (c : Cpu) (v : Word) (p : R16Stk) : (c.setStackPair v p).imePending = c.imePending := by cases p <;> rfl
@[simp] theorem Cpu.setStackPair_halt (c : Cpu) (v : Word) (p : R16Stk) : (c.setStackPair v p).halt = c.halt := by cases p <;> rfl
@[simp] theorem Cpu.setStackPair_stop (c : Cpu) (v : Word) (p : R16Stk) : (c.setStackPair v p).stop = c.stop := by cases p <;> rfl

end Sys2Proof.Machine
end

