-- ==== Sys2Proof/Laws/Memory.lean ====
section
/-!
SUPPORT. What a write through the router can do (20_memory.md R86): which parts of the state it never touches, what each owner
stores, and that every write keeps the canonical form of the memories and the invariants of `State.Inv`.
-/

namespace Sys2Proof.Machine

/-! ### The router -/

/-- The owner of an address depends on `booting` and the colour mode only. -/
theorem State.owner_congr {s t : State} (hb : t.booting = s.booting) (hp : t.par = s.par) (a : Word) : t.owner a = s.owner a := by
  simp only [State.owner, hb, hp]

/-- The owners of the high I/O page 0xFF00-0xFF7F: the devices' registers and plain RAM. -/
def Owner.onIoPage : Owner → Bool
  | .boot | .rom0 | .romX | .vram | .ext | .oam | .ie => false
  | _ => true

theorem ioOwner_onIoPage (k : Bool) (n : Nat) : (ioOwner k n).onIoPage = true := by
  have ite {p : Prop} [Decidable p] {x y : Owner} (hx : x.onIoPage = true) (hy : y.onIoPage = true) :
      (if p then x else y).onIoPage = true := by split <;> assumption
  unfold ioOwner
  repeat' first | rfl | apply ite

/-- The router, range by range (20_memory.md R85): what an address's owner says about the address. -/
theorem State.range_of_owner (s : State) (a : Word) :
    (s.owner a = .boot → a.toNat < 0x0100 ∧ s.booting = true) ∧
    (s.owner a = .rom0 → a.toNat < 0x4000) ∧
    (s.owner a = .romX → 0x4000 ≤ a.toNat ∧ a.toNat < 0x8000) ∧
    (s.owner a = .vram → 0x8000 ≤ a.toNat ∧ a.toNat < 0xA000) ∧
    (s.owner a = .ext → 0xA000 ≤ a.toNat ∧ a.toNat < 0xC000) ∧
    (s.owner a = .oam → 0xFE00 ≤ a.toNat ∧ a.toNat < 0xFEA0) ∧
    (s.owner a = .ie → a.toNat = 0xFFFF) := by
  have hlt := a.isLt
  have hio := ioOwner_onIoPage s.par.colorMode a.toNat
  unfold State.owner route
  simp only
  generalize a.toNat = n at hlt hio ⊢
  split
  · by_cases hb : s.booting = true
    · simp only [hb, if_true, reduceCtorEq, false_implies, and_true, true_implies]; omega
    · simp only [hb, if_false, reduceCtorEq, false_implies, and_true, true_and, true_implies]; omega
  split
  · simp only [reduceCtorEq, false_implies, and_true, true_and, true_implies]; omega
  split
  · simp only [reduceCtorEq, false_implies, and_true, true_and, true_implies]; omega
  split
  · simp only [reduceCtorEq, false_implies, and_true, true_and, true_implies]; omega
  split
  · simp only [reduceCtorEq, false_implies, and_true, true_and, true_implies]; omega
  split
  · simp only [reduceCtorEq, false_implies, and_true]
  split
  · simp only [reduceCtorEq, false_implies, and_true, true_and, true_implies]; omega
  split
  · simp only [reduceCtorEq, false_implies, and_true]
  split
  · refine ⟨?_, ?_, ?_, ?_, ?_, ?_, ?_⟩ <;> intro h <;> rw [h] at hio <;> exact absurd hio (by decide)
  split
  · simp only [reduceCtorEq, false_implies, and_true]
  · simp only [reduceCtorEq, false_implies, true_and, true_implies]; omega

theorem State.oam_of_owner {s : State} {a : Word} (h : s.owner a = .oam) : 0xFE00 ≤ a.toNat ∧ a.toNat < 0xFEA0 :=
  (s.range_of_owner a).2.2.2.2.2.1 h

theorem State.vram_of_owner {s : State} {a : Word} (h : s.owner a = .vram) : 0x8000 ≤ a.toNat ∧ a.toNat < 0xA000 :=
  (s.range_of_owner a).2.2.2.1 h

theorem State.ext_of_owner {s : State} {a : Word} (h : s.owner a = .ext) : 0xA000 ≤ a.toNat ∧ a.toNat < 0xC000 :=
  (s.range_of_owner a).2.2.2.2.1 h

/-- WRAM and the region above it that this design does not mirror, the gap after OAM, and HRAM are plain RAM (20_memory.md R84). -/
theorem State.owner_ram (s : State) {a : Word}
    (h : (0xC000 ≤ a.toNat ∧ a.toNat < 0xFE00) ∨ (0xFEA0 ≤ a.toNat ∧ a.toNat < 0xFF00) ∨
      (0xFF80 ≤ a.toNat ∧ a.toNat < 0xFFFF)) : s.owner a = .ram := by
  unfold State.owner route
  simp only
  rw [if_neg (by omega), if_neg (by omega), if_neg (by omega), if_neg (by omega), if_neg (by omega)]
  split
  · rfl
  rw [if_neg (by omega)]
  split
  · rfl
  rw [if_neg (by omega), if_pos (by omega)]

/-- Every address of OAM routes to OAM (20_memory.md R85). -/
theorem State.owner_oam (s : State) {a : Word} (h : 0xFE00 ≤ a.toNat) (h' : a.toNat < 0xFEA0) : s.owner a = .oam := by
  unfold State.owner route
  simp only
  rw [if_neg (by omega), if_neg (by omega), if_neg (by omega), if_neg (by omega), if_neg (by omega), if_neg (by omega),
    if_pos h']

/-- The one address of a register: every register of the I/O page and IE has an address of its own (20_memory.md R85). -/
def Owner.regAddr : Owner → Option Nat
  | .joyp => some 0xFF00
  | .div => some 0xFF04
  | .tima => some 0xFF05
  | .tma => some 0xFF06
  | .tac => some 0xFF07
  | .iflag => some 0xFF0F
  | .lcdc => some 0xFF40
  | .stat => some 0xFF41
  | .scy => some 0xFF42
  | .scx => some 0xFF43
  | .ly => some 0xFF44
  | .lyc => some 0xFF45
  | .dma => some 0xFF46
  | .bgp => some 0xFF47
  | .obp0 => some 0xFF48
  | .obp1 => some 0xFF49
  | .wy => some 0xFF4A
  | .wx => some 0xFF4B
  | .vbk => some 0xFF4F
  | .bcps => some 0xFF68
  | .bcpd => some 0xFF69
  | .ie => some 0xFFFF
  | .boot | .rom0 | .romX | .vram | .ext | .ram | .oam => none

theorem ioOwner_addr {k : Bool} {n m : Nat} (h : (ioOwner k n).regAddr = some m) : n = m := by
  have ite {p : Prop} [Decidable p] {x y : Owner} (hx : p → x.regAddr = some m → n = m) (hy : y.regAddr = some m → n = m)
      (h : (if p then x else y).regAddr = some m) : n = m := by
    by_cases hp : p
    · rw [if_pos hp] at h; exact hx hp h
    · rw [if_neg hp] at h; exact hy h
  revert h
  unfold ioOwner
  repeat' first
    | apply ite
    | (intro hp h; simp only [Owner.regAddr, Option.some.injEq] at h; omega)
    | (intro h; simp only [Owner.regAddr, reduceCtorEq] at h)

/-- An address whose owner is a register is that register's address. -/
theorem State.addr_of_owner {s : State} {a : Word} {m : Nat} (h : (s.owner a).regAddr = some m) : a.toNat = m := by
  have hlt := a.isLt
  revert h
  unfold State.owner route
  simp only
  split
  · split <;> (intro h; simp [Owner.regAddr] at h)
  repeat' split
  all_goals first
    | (intro h; exact ioOwner_addr h)
    | (intro h; simp [Owner.regAddr] at h; omega)
    | (intro h; simp [Owner.regAddr] at h)

/-! ### Writes below 0x8000 -/

theorem State.selectRomBank_eq (s : State) (a : Word) (v : Byte) (k : Bool) (b : BitVec 9) :
    ∃ d, s.selectRomBank a v k b = { s with cart := { s.cart with romBank := if b = 0 then 1 else b }, diag := s.diag ++ d } := by
  unfold State.selectRomBank
  simp only
  generalize (if b = 0 then (1 : BitVec 9) else b) = bank
  by_cases h : k = true ∨ b = 0 ∨ nbanks s.cart.rom ≤ bank.toNat
  · exact ⟨[.bankCoerced a v bank], by rw [if_pos h]; rfl⟩
  · exact ⟨[], by rw [if_neg h]; simp⟩

/-- A write below 0x8000 changes the controller's registers and the diagnostics only (20_memory.md R90). -/
theorem State.controllerWrite_eq (s : State) (a : Word) (v : Byte) :
    ∃ c d, s.controllerWrite a v = { s with cart := c, diag := s.diag ++ d } ∧
      c.rom = s.cart.rom ∧ c.ctype = s.cart.ctype ∧ c.rtc = s.cart.rtc ∧ c.extRam = s.cart.extRam := by
  have sel (k : Bool) (b : BitVec 9) : ∃ c d, s.selectRomBank a v k b = { s with cart := c, diag := s.diag ++ d } ∧
      c.rom = s.cart.rom ∧ c.ctype = s.cart.ctype ∧ c.rtc = s.cart.rtc ∧ c.extRam = s.cart.extRam := by
    obtain ⟨d, h⟩ := s.selectRomBank_eq a v k b
    exact ⟨_, d, h, rfl, rfl, rfl, rfl⟩
  have same : ∃ c d, s = { s with cart := c, diag := s.diag ++ d } ∧
      c.rom = s.cart.rom ∧ c.ctype = s.cart.ctype ∧ c.rtc = s.cart.rtc ∧ c.extRam = s.cart.extRam :=
    ⟨s.cart, [], by simp, rfl, rfl, rfl, rfl⟩
  have upd (c : Cart) (h : c.rom = s.cart.rom ∧ c.ctype = s.cart.ctype ∧ c.rtc = s.cart.rtc ∧ c.extRam = s.cart.extRam) :
      ∃ c' d, { s with cart := c } = { s with cart := c', diag := s.diag ++ d } ∧
      c'.rom = s.cart.rom ∧ c'.ctype = s.cart.ctype ∧ c'.rtc = s.cart.rtc ∧ c'.extRam = s.cart.extRam :=
    ⟨c, [], by simp, h⟩
  unfold State.controllerWrite
  split
  · exact same
  · unfold State.mbc1Write
    simp only
    split_ifs
    · exact upd _ ⟨rfl, rfl, rfl, rfl⟩
    · exact sel _ _
    · exact upd _ ⟨rfl, rfl, rfl, rfl⟩
    · exact sel _ _
    · exact upd _ ⟨rfl, rfl, rfl, rfl⟩
    · exact upd _ ⟨rfl, rfl, rfl, rfl⟩
  · unfold State.mbc2Write
    simp only
    split_ifs
    · exact sel _ _
    · exact upd _ ⟨rfl, rfl, rfl, rfl⟩
    · exact same
  · unfold State.mbc3Write
    simp only
    split_ifs
    · exact upd _ ⟨rfl, rfl, rfl, rfl⟩
    · exact sel _ _
    · exact upd _ ⟨rfl, rfl, rfl, rfl⟩
    · split
      · exact upd _ ⟨rfl, rfl, rfl, rfl⟩
      · exact same
    · exact same
  · unfold State.mbc5Write
    simp only
    split_ifs
    · exact upd _ ⟨rfl, rfl, rfl, rfl⟩
    · exact sel _ _
    · exact sel _ _
    · exact upd _ ⟨rfl, rfl, rfl, rfl⟩
    · exact same

/-! ### OAM DMA -/

/-- A DMA copy changes OAM only (20_memory.md R120). -/
theorem State.dmaFrom_eq (page : Byte) (i k : Nat) (s : State) :
    ∃ m, State.dmaFrom page i k s = { s with ppu := { s.ppu with oam := m } } := by
  induction k generalizing i s with
  | zero => exact ⟨s.ppu.oam, rfl⟩
  | succ k ih =>
    obtain ⟨m, h⟩ := ih (i + 1) (s.setOam i (s.memRead (word16 page 0 + BitVec.ofNat 16 i)))
    exact ⟨m, by rw [State.dmaFrom, h]; rfl⟩

/-- The DMA write changes the DMA register and OAM only (20_memory.md R120). -/
theorem State.dmaWrite_eq (s : State) (v : Byte) : ∃ m, s.dmaWrite v = { s with ppu := { s.ppu with dma := v, oam := m } } := by
  unfold State.dmaWrite
  generalize 160 = k
  obtain ⟨m, h⟩ := State.dmaFrom_eq v 0 k { s with ppu := { s.ppu with dma := v } }
  exact ⟨m, by rw [h]⟩

/-- A DMA copy inside OAM keeps OAM's canonical form. -/
theorem State.dmaFrom_wf (page : Byte) (i k : Nat) (s : State) (h : Mem.wf 0xA0 noDefault s.ppu.oam = true) (hk : i + k ≤ 0xA0) :
    Mem.wf 0xA0 noDefault (State.dmaFrom page i k s).ppu.oam = true := by
  induction k generalizing i s with
  | zero => exact h
  | succ k ih =>
    rw [State.dmaFrom]
    exact ih (i + 1) _ (Mem.wf_write (dflt := noDefault) _ h (by omega)) (by omega)

theorem State.dmaWrite_wf (s : State) (v : Byte) (h : Mem.wf 0xA0 noDefault s.ppu.oam = true) :
    Mem.wf 0xA0 noDefault (s.dmaWrite v).ppu.oam = true := by
  have key (n : Nat) (hn : n = 0xA0) (t : State) (ht : Mem.wf n noDefault t.ppu.oam = true) :
      Mem.wf n noDefault (State.dmaFrom v 0 n t).ppu.oam = true := by
    rw [hn] at ht
    have := State.dmaFrom_wf v 0 n t ht (by omega)
    rwa [← hn] at this
  exact key _ rfl _ h

/-! ### What no write touches -/

/-- A write changes neither the CPU, the parameters, `booting` nor the cycle counters, and of the cartridge neither the ROM
nor the kind; the diagnostics only grow. -/
theorem State.memWrite_keeps (s : State) (a : Word) (v : Byte) :
    (s.memWrite a v).cpu = s.cpu ∧ (s.memWrite a v).par = s.par ∧ (s.memWrite a v).booting = s.booting ∧
      (s.memWrite a v).stepCycles = s.stepCycles ∧ (s.memWrite a v).totalCycles = s.totalCycles ∧
      (s.memWrite a v).cart.rom = s.cart.rom ∧ (s.memWrite a v).cart.ctype = s.cart.ctype ∧
      ∃ d, (s.memWrite a v).diag = s.diag ++ d := by
  have hc : (s.controllerWrite a v).cpu = s.cpu ∧ (s.controllerWrite a v).par = s.par ∧
      (s.controllerWrite a v).booting = s.booting ∧
      (s.controllerWrite a v).stepCycles = s.stepCycles ∧ (s.controllerWrite a v).totalCycles = s.totalCycles ∧
      (s.controllerWrite a v).cart.rom = s.cart.rom ∧ (s.controllerWrite a v).cart.ctype = s.cart.ctype ∧
      ∃ d, (s.controllerWrite a v).diag = s.diag ++ d := by
    obtain ⟨c, d, h, hr, ht, -⟩ := s.controllerWrite_eq a v
    rw [h]
    exact ⟨rfl, rfl, rfl, rfl, rfl, hr, ht, d, rfl⟩
  unfold State.memWrite
  split
  case h_4 =>
    unfold State.setVram
    split <;> exact ⟨rfl, rfl, rfl, rfl, rfl, rfl, rfl, [], by simp⟩
  case h_5 =>
    unfold extWrite
    refine ⟨rfl, rfl, rfl, rfl, rfl, ?_, ?_, [], by simp⟩ <;> (repeat' split) <;> rfl
  case h_20 =>
    obtain ⟨m, h⟩ := s.dmaWrite_eq v
    rw [h]
    exact ⟨rfl, rfl, rfl, rfl, rfl, rfl, rfl, [], by simp⟩
  case h_28 => exact ⟨rfl, rfl, rfl, rfl, rfl, rfl, rfl, [], by simp [State.bcpdWrite]⟩
  all_goals first
    | exact hc
    | exact ⟨rfl, rfl, rfl, rfl, rfl, rfl, rfl, [], by simp⟩

@[simp] theorem State.memWrite_cpu (s : State) (a : Word) (v : Byte) : (s.memWrite a v).cpu = s.cpu := (s.memWrite_keeps a v).1

@[simp] theorem State.memWrite_par (s : State) (a : Word) (v : Byte) : (s.memWrite a v).par = s.par := (s.memWrite_keeps a v).2.1

@[simp] theorem State.memWrite_booting (s : State) (a : Word) (v : Byte) : (s.memWrite a v).booting = s.booting :=
  (s.memWrite_keeps a v).2.2.1

@[simp] theorem State.memWrite_stepCycles (s : State) (a : Word) (v : Byte) : (s.memWrite a v).stepCycles = s.stepCycles :=
  (s.memWrite_keeps a v).2.2.2.1

@[simp] theorem State.memWrite_totalCycles (s : State) (a : Word) (v : Byte) : (s.memWrite a v).totalCycles = s.totalCycles :=
  (s.memWrite_keeps a v).2.2.2.2.1

@[simp] theorem State.memWrite_rom (s : State) (a : Word) (v : Byte) : (s.memWrite a v).cart.rom = s.cart.rom :=
  (s.memWrite_keeps a v).2.2.2.2.2.1

@[simp] theorem State.memWrite_ctype (s : State) (a : Word) (v : Byte) : (s.memWrite a v).cart.ctype = s.cart.ctype :=
  (s.memWrite_keeps a v).2.2.2.2.2.2.1

@[simp] theorem State.memWrite_owner (s : State) (a b : Word) (v : Byte) : (s.memWrite a v).owner b = s.owner b :=
  State.owner_congr (by simp) (by simp) b

@[simp] theorem State.push16_par (s : State) (v : Word) : (s.push16 v).par = s.par := by simp [State.push16]

@[simp] theorem State.push16_booting (s : State) (v : Word) : (s.push16 v).booting = s.booting := by simp [State.push16]

/-- A push moves SP down by 2 and changes no other register (00_scope.md R12). -/
theorem State.push16_cpu (s : State) (v : Word) : (s.push16 v).cpu = { s.cpu with sp := s.cpu.sp - 2 } := by
  have h : s.cpu.sp - 1 - 1 = s.cpu.sp - 2 := by bv_omega
  simp only [State.push16, State.memWrite_cpu, State.setSp_cpu, h]

/-! ### Writes and registers -/

/-- A read depends on no register (20_memory.md R85). -/
theorem State.memRead_withCpu (s : State) (c : Cpu) (a : Word) : State.memRead { s with cpu := c } a = s.memRead a := rfl

theorem State.dmaFrom_withCpu (page : Byte) (i k : Nat) (s : State) (c : Cpu) :
    State.dmaFrom page i k { s with cpu := c } = { State.dmaFrom page i k s with cpu := c } := by
  induction k generalizing i s with
  | zero => rfl
  | succ k ih => rw [State.dmaFrom, State.dmaFrom, ← ih]; rfl

theorem State.selectRomBank_withCpu (s : State) (a : Word) (v : Byte) (k : Bool) (b : BitVec 9) (c : Cpu) :
    State.selectRomBank { s with cpu := c } a v k b = { s.selectRomBank a v k b with cpu := c } := by
  unfold State.selectRomBank
  simp only
  generalize (if b = 0 then (1 : BitVec 9) else b) = bank
  split <;> rfl

theorem State.controllerWrite_withCpu (s : State) (a : Word) (v : Byte) (c : Cpu) :
    State.controllerWrite { s with cpu := c } a v = { s.controllerWrite a v with cpu := c } := by
  unfold State.controllerWrite
  simp only
  split
  · rfl
  · unfold State.mbc1Write
    simp only [State.selectRomBank_withCpu]
    split
    · rfl
    split
    · rfl
    split
    · split <;> rfl
    · rfl
  · unfold State.mbc2Write
    simp only [State.selectRomBank_withCpu]
    split
    · split <;> rfl
    · rfl
  · unfold State.mbc3Write
    simp only [State.selectRomBank_withCpu]
    split
    · rfl
    split
    · rfl
    split
    · split
      · rfl
      · split <;> rfl
    · rfl
  · unfold State.mbc5Write
    simp only [State.selectRomBank_withCpu]
    split
    · rfl
    split
    · rfl
    split
    · rfl
    split <;> rfl

/-- A write through the router depends on no register, and commutes with changing them. -/
theorem State.memWrite_withCpu (s : State) (c : Cpu) (a : Word) (v : Byte) :
    State.memWrite { s with cpu := c } a v = { s.memWrite a v with cpu := c } := by
  have ho : State.owner { s with cpu := c } a = s.owner a := rfl
  unfold State.memWrite
  rw [ho]
  split
  case h_1 => exact s.controllerWrite_withCpu a v c
  case h_2 => exact s.controllerWrite_withCpu a v c
  case h_3 => exact s.controllerWrite_withCpu a v c
  case h_4 =>
    have hv : State.vramBank { s with cpu := c } = s.vramBank := rfl
    unfold State.setVram
    rw [hv]
    split <;> rfl
  case h_20 =>
    unfold State.dmaWrite
    generalize 160 = k
    exact State.dmaFrom_withCpu v 0 k { s with ppu := { s.ppu with dma := v } } c
  all_goals rfl

/-- A push in one equation: the high byte at SP - 1, then the low byte at SP - 2, and SP 2 lower (00_scope.md R12). -/
theorem State.push16_eq (s : State) (v : Word) :
    s.push16 v =
      { (s.memWrite (s.cpu.sp - 1) (hiByte v)).memWrite (s.cpu.sp - 2) (loByte v) with cpu := { s.cpu with sp := s.cpu.sp - 2 } } := by
  have h : s.cpu.sp - 1 - 1 = s.cpu.sp - 2 := by bv_omega
  unfold State.push16
  simp only [State.setSp, State.memWrite_withCpu, h]

/-! ### The canonical forms -/

theorem extOffset_lt (c : Cart) {a : Nat} (h : 0xA000 ≤ a) (h' : a < 0xC000) : extOffset c a < 0x20000 := by
  have := c.ramBank.isLt
  unfold extOffset
  omega

theorem mbc2Offset_lt (a : Nat) : mbc2Offset a < 0x200 := Nat.mod_lt _ (by decide)

theorem extWrite_wf (c : Cart) {a : Nat} (v : Byte) (h : 0xA000 ≤ a) (h' : a < 0xC000)
    (hw : Mem.wf 0x20000 noDefault c.extRam = true) : Mem.wf 0x20000 noDefault (extWrite c a v).extRam = true := by
  unfold extWrite
  split
  · exact hw
  split
  · exact hw
  · exact Mem.wf_write (dflt := noDefault) v hw (extOffset_lt c h h')
  · exact Mem.wf_write (dflt := noDefault) v hw (extOffset_lt c h h')
  · exact Mem.wf_write (dflt := noDefault) _ hw (Nat.lt_trans (mbc2Offset_lt a) (by omega))
  · split
    · exact Mem.wf_write (dflt := noDefault) v hw (extOffset_lt c h h')
    · split
      · exact hw
      · exact hw

/-- Every write keeps the canonical form of the memories. -/
theorem State.memWrite_memWf {s : State} (a : Word) (v : Byte) (h : s.MemWf) : (s.memWrite a v).MemWf := by
  obtain ⟨hm, h0, h1, ho, hp, he, hf⟩ := h
  have hc : (s.controllerWrite a v).MemWf := by
    obtain ⟨c, d, e, -, -, -, hx⟩ := s.controllerWrite_eq a v
    rw [e]
    exact ⟨hm, h0, h1, ho, hp, by rw [hx]; exact he, hf⟩
  unfold State.memWrite
  split
  case h_4 hv =>
    have hr := State.vram_of_owner hv
    unfold State.setVram
    split
    · exact ⟨hm, h0, Mem.wf_write (dflt := noDefault) v h1 (by omega), ho, hp, he, hf⟩
    · exact ⟨hm, Mem.wf_write (dflt := noDefault) v h0 (by omega), h1, ho, hp, he, hf⟩
  case h_5 hv =>
    have hr := State.ext_of_owner hv
    exact ⟨hm, h0, h1, ho, hp, extWrite_wf s.cart v hr.1 hr.2 he, hf⟩
  case h_6 => exact ⟨Mem.wf_write v hm a.isLt, h0, h1, ho, hp, he, hf⟩
  case h_7 hv =>
    have hr := State.oam_of_owner hv
    exact ⟨hm, h0, h1, Mem.wf_write (dflt := noDefault) v ho (by omega), hp, he, hf⟩
  case h_20 =>
    have hw := s.dmaWrite_wf v ho
    obtain ⟨m, e⟩ := s.dmaWrite_eq v
    rw [e] at hw ⊢
    exact ⟨hm, h0, h1, hw, hp, he, hf⟩
  case h_28 =>
    have hlt : (s.ppu.bcps &&& 0x3F).toNat < 0x40 := by
      rw [BitVec.toNat_and]
      exact Nat.lt_of_le_of_lt Nat.and_le_right (by decide)
    exact ⟨hm, h0, h1, ho, Mem.wf_write (dflt := noDefault) v hp hlt, he, hf⟩
  all_goals first
    | exact hc
    | exact ⟨hm, h0, h1, ho, hp, he, hf⟩

end Sys2Proof.Machine
end

