-- ==== Sys2Proof/Laws/Devices.lean ====
section
/-!
SUPPORT. What the devices' advance can do (60_exceptions.md R432, R455): which fields the PPU and the timer change, that they only
set bits of IF, and that they keep their own invariants.
-/

namespace Sys2Proof.Machine

/-! ### The PPU -/

/-- t is s after some PPU activity: only the framebuffer, STAT, LY and `dot` have changed, and bits 0 and 1 of IF may have been
set. -/
structure PpuAdvance (s t : State) : Prop where
  rest : t = { s with
    ppu := { s.ppu with fb := t.ppu.fb, stat := t.ppu.stat, ly := t.ppu.ly, dot := t.ppu.dot }, iflag := t.iflag }
  iflag : ∃ k : Byte, t.iflag = s.iflag ||| k ∧ k &&& 0xFC = 0

namespace PpuAdvance

variable {s t u : State}

theorem refl (s : State) : PpuAdvance s s := ⟨rfl, 0, by simp, by decide⟩

theorem trans (h : PpuAdvance s t) (h' : PpuAdvance t u) : PpuAdvance s u := by
  obtain ⟨r, k, e, hk⟩ := h
  obtain ⟨r', k', e', hk'⟩ := h'
  refine ⟨?_, k ||| k', ?_, ?_⟩
  · rw [r', r]
  · rw [e', e, BitVec.or_assoc]
  · have d (m : Byte) : (k ||| k') &&& m = k &&& m ||| k' &&& m := by ext i; simp [Bool.and_or_distrib_right]
    rw [d, hk, hk', BitVec.or_self]

theorem setMode (s : State) (m : Nat) : PpuAdvance s (s.setMode m) := ⟨rfl, 0, by simp [State.setMode], by decide⟩

theorem requestIrq (s : State) (i : Nat) (h : i < 2) : PpuAdvance s (s.requestIrq i) := by
  refine ⟨rfl, 1#8 <<< i, rfl, ?_⟩
  have : i = 0 ∨ i = 1 := by omega
  rcases this with rfl | rfl <;> decide

theorem lcdIrqIf (s : State) (b : Nat) : PpuAdvance s (s.lcdIrqIf b) := by
  unfold State.lcdIrqIf
  split
  · exact requestIrq s 1 (by omega)
  · exact refl s

theorem renderLine (s : State) (y : Nat) : PpuAdvance s (s.renderLine y) := ⟨rfl, 0, by simp [State.renderLine], by decide⟩

theorem nextLine (s : State) : PpuAdvance s s.nextLine := by
  have h (p : Ppu) (hp : p = { s.ppu with fb := p.fb, stat := p.stat, ly := p.ly, dot := p.dot }) :
      PpuAdvance s { s with ppu := p } := ⟨by rw [← hp], 0, by simp, by decide⟩
  unfold State.nextLine
  simp only
  split
  · exact (h _ rfl).trans (lcdIrqIf _ _)
  · exact h _ rfl

theorem enterMode (s : State) (m : Nat) : PpuAdvance s (s.enterMode m) := by
  unfold State.enterMode
  simp only
  split
  · exact ((setMode s 0).trans (renderLine _ _)).trans (lcdIrqIf _ _)
  · exact ((setMode s 1).trans (requestIrq _ 0 (by omega))).trans (lcdIrqIf _ _)
  · exact (setMode s 2).trans (lcdIrqIf _ _)
  · exact setMode s m

theorem ppuTick (s : State) : PpuAdvance s s.ppuTick := by
  have h0 : PpuAdvance s { s with ppu := { s.ppu with dot := s.ppu.dot + 1 } } := ⟨rfl, 0, by simp, by decide⟩
  unfold State.ppuTick
  simp only
  split
  · split
    · exact (h0.trans (nextLine _)).trans (enterMode _ _)
    · exact h0.trans (nextLine _)
  · split
    · exact h0.trans (enterMode _ _)
    · exact h0

theorem ppuTicks (c : Nat) (s : State) : PpuAdvance s (State.ppuTicks c s) := by
  induction c generalizing s with
  | zero => exact refl s
  | succ c ih => exact (ppuTick s).trans (ih _)

theorem ppuUpdate (s : State) (c : Nat) : PpuAdvance s (s.ppuUpdate c) := by
  unfold State.ppuUpdate
  split
  · exact ⟨rfl, 0, by simp [State.setMode], by decide⟩
  · exact ppuTicks c s

end PpuAdvance

/-! ### The framebuffer -/

theorem paintSprite_length (par : Params) (p : Ppu) (bgci : List Nat) (ly : Nat) (row : List Rgba) (n : Nat) :
    (paintSprite par p bgci ly row n).length = row.length := by
  have col (r : List Rgba) (c : Nat) : (paintSpriteColumn par p bgci ly n r c).length = r.length := by
    unfold paintSpriteColumn
    simp only
    (repeat' split) <;> simp
  have fold (l : List Nat) (r : List Rgba) : (l.foldl (paintSpriteColumn par p bgci ly n) r).length = r.length := by
    induction l generalizing r with
    | nil => rfl
    | cons c l ih => rw [List.foldl_cons, ih, col]
  unfold paintSprite
  split
  · exact fold _ _
  · rfl

/-- A rendered row is 160 pixels long (60_exceptions.md R466). -/
theorem renderRow_length (par : Params) (p : Ppu) (ly : Nat) : (renderRow par p ly).length = 160 := by
  have fold (bgci : List Nat) (l : List Nat) (r : List Rgba) :
      (l.foldl (paintSprite par p bgci ly) r).length = r.length := by
    induction l generalizing r with
    | nil => rfl
    | cons c l ih => rw [List.foldl_cons, ih, paintSprite_length]
  unfold renderRow
  simp only
  split
  · rw [fold]; simp
  · simp

theorem rowsWf_cons (y : Nat) (r : List Rgba) (m : List (Nat × List Rgba)) :
    rowsWf ((y, r) :: m) = true ↔ y < 144 ∧ r.length = 160 ∧ (∀ q ∈ m, y < q.1) ∧ rowsWf m = true := by
  simp only [rowsWf, Bool.and_eq_true, decide_eq_true_eq, List.all_eq_true]
  tauto

theorem putRow_above {k y : Nat} {r : List Rgba} {m : List (Nat × List Rgba)} (h : ∀ q ∈ m, k < q.1) (hy : k < y) :
    ∀ q ∈ putRow m y r, k < q.1 := by
  induction m with
  | nil =>
    intro q hq
    simp only [putRow, List.mem_singleton] at hq
    subst hq; exact hy
  | cons p m ih =>
    obtain ⟨j, w⟩ := p
    intro q hq
    simp only [putRow] at hq
    split at hq
    · rcases List.mem_cons.1 hq with rfl | hq
      · exact hy
      · exact h q hq
    · split at hq
      · rcases List.mem_cons.1 hq with rfl | hq
        · exact hy
        · exact h q (by simp [hq])
      · rcases List.mem_cons.1 hq with rfl | hq
        · exact h _ (by simp)
        · exact ih (fun q hq => h q (by simp [hq])) q hq

/-- Rendering a visible line keeps the framebuffer's canonical form. -/
theorem rowsWf_putRow {m : List (Nat × List Rgba)} {y : Nat} {r : List Rgba} (h : rowsWf m = true) (hy : y < 144)
    (hr : r.length = 160) : rowsWf (putRow m y r) = true := by
  induction m with
  | nil => exact (rowsWf_cons ..).2 ⟨hy, hr, by simp, rfl⟩
  | cons p m ih =>
    obtain ⟨k, w⟩ := p
    obtain ⟨hk, hw, hab, hm⟩ := (rowsWf_cons ..).1 h
    simp only [putRow]
    split
    · rename_i hlt
      refine (rowsWf_cons ..).2 ⟨hy, hr, ?_, h⟩
      intro q hq
      rcases List.mem_cons.1 hq with rfl | hq
      · exact hlt
      · exact Nat.lt_trans hlt (hab q hq)
    · split
      · rename_i he
        subst he
        exact (rowsWf_cons ..).2 ⟨hk, hr, hab, hm⟩
      · exact (rowsWf_cons ..).2 ⟨hk, hw, putRow_above hab (by omega), ih hm⟩

/-- A row reads back as it was rendered, and rendering it leaves the other rows alone. -/
theorem getRow_putRow (m : List (Nat × List Rgba)) (y z : Nat) (r : List Rgba) :
    getRow (putRow m y r) z = if z = y then some r else getRow m z := by
  induction m with
  | nil => simp [putRow, getRow]
  | cons p m ih =>
    obtain ⟨k, w⟩ := p
    simp only [putRow]
    split
    · simp [getRow]
    · split
      · subst_vars
        by_cases h : z = k <;> simp [getRow, h]
      · by_cases h : z = k
        · simp [getRow, h]
          intro h'; omega
        · simp [getRow, h, ih]

/-! ### The timer -/

/-- t is s after some timer activity: only DIV, TIMA and the two sub-counters have changed, and bit 2 of IF may have been set. -/
structure TimerAdvance (s t : State) : Prop where
  rest : t = { s with
    timer := { s.timer with
      div := t.timer.div, tima := t.timer.tima, divCounter := t.timer.divCounter, timaCounter := t.timer.timaCounter },
    iflag := t.iflag }
  iflag : t.iflag = s.iflag ∨ t.iflag = withBit s.iflag 2

namespace TimerAdvance

variable {s t u : State}

theorem refl (s : State) : TimerAdvance s s := ⟨rfl, .inl rfl⟩

theorem trans (h : TimerAdvance s t) (h' : TimerAdvance t u) : TimerAdvance s u := by
  obtain ⟨r, e⟩ := h
  obtain ⟨r', e'⟩ := h'
  have idem (x : Byte) : withBit (withBit x 2) 2 = withBit x 2 := by unfold withBit; rw [BitVec.or_assoc, BitVec.or_self]
  refine ⟨?_, ?_⟩
  · rw [r', r]
  · rcases e with e | e <;> rcases e' with e' | e'
    · exact .inl (e'.trans e)
    · exact .inr (by rw [e', e])
    · exact .inr (by rw [e', e])
    · exact .inr (by rw [e', e, idem])

theorem timaTick (s : State) : TimerAdvance s s.timaTick := by
  unfold State.timaTick
  split
  · exact ⟨rfl, .inr rfl⟩
  · exact ⟨rfl, .inl rfl⟩

theorem timaTicks (n : Nat) (s : State) : TimerAdvance s (State.timaTicks n s) := by
  induction n generalizing s with
  | zero => exact refl s
  | succ n ih => exact (timaTick s).trans (ih _)

theorem timerUpdate (s : State) (c : Nat) : TimerAdvance s (s.timerUpdate c) := by
  have h : TimerAdvance s (s.dividerUpdate c) := ⟨rfl, .inl rfl⟩
  unfold State.timerUpdate State.timaUpdate
  split
  · refine h.trans (TimerAdvance.trans (t := { s.dividerUpdate c with timer := { (s.dividerUpdate c).timer with
      timaCounter := ((s.dividerUpdate c).timer.timaCounter + c) % timaThreshold (s.dividerUpdate c).timer.tac } }) ?_ ?_)
    · exact ⟨rfl, .inl rfl⟩
    · exact timaTicks _ _
  · exact h

end TimerAdvance

/-- TIMA increments leave the sub-counters alone. -/
theorem State.timaTicks_counters (n : Nat) (s : State) :
    (State.timaTicks n s).timer.timaCounter = s.timer.timaCounter ∧ (State.timaTicks n s).timer.divCounter = s.timer.divCounter := by
  induction n generalizing s with
  | zero => exact ⟨rfl, rfl⟩
  | succ n ih =>
    rw [State.timaTicks]
    obtain ⟨h, h'⟩ := ih s.timaTick
    rw [h, h']
    unfold State.timaTick
    split <;> exact ⟨rfl, rfl⟩

theorem timaThreshold_bounds (tac : BitVec 3) : 16 ≤ timaThreshold tac ∧ timaThreshold tac ≤ 1024 := by
  unfold timaThreshold
  (repeat' split) <;> omega

end Sys2Proof.Machine
end

