-- ==== Sys2Proof/Laws/Families.lean ====
section
/-!
SUPPORT. The instruction set by families: every constructor is a member of one family view of Sys2Proof/Syntax.lean, or stands alone,
so that a property of every instruction is one case per family; and what each family's members execute.
-/

namespace Sys2Proof

/-- Every instruction belongs to a family: a property that holds of every family's members, of each instruction that stands alone
and of the eleven illegal bytes holds of every instruction. -/
theorem Instr.byFamily {P : Instr → Prop}
    (ldReg : ∀ (rd rs : Reg8), P (Instr.ldReg rd rs))
    (ldRegHl : ∀ (rd : Reg8), P (Instr.ldRegHl rd))
    (ldHlReg : ∀ (rs : Reg8), P (Instr.ldHlReg rs))
    (ldImm8 : ∀ (x : R8) (n : Byte), P (Instr.ldImm8 x n))
    (ldPair : ∀ (p : R16) (n : Word), P (Instr.ldPair p n))
    (push : ∀ (p : R16Stk), P (Instr.push p))
    (pop : ∀ (p : R16Stk), P (Instr.pop p))
    (alu : ∀ (o : AluOp) (x : R8), P (Instr.alu o x))
    (aluImm : ∀ (o : AluOp) (n : Byte), P (Instr.aluImm o n))
    (inc : ∀ (x : R8), P (Instr.inc x))
    (dec : ∀ (x : R8), P (Instr.dec x))
    (addHl : ∀ (p : R16), P (Instr.addHl p))
    (incPair : ∀ (p : R16), P (Instr.incPair p))
    (decPair : ∀ (p : R16), P (Instr.decPair p))
    (jrCc : ∀ (cc : Cond) (e : Byte), P (Instr.jrCc cc e))
    (jpCc : ∀ (cc : Cond) (a : Word), P (Instr.jpCc cc a))
    (callCc : ∀ (cc : Cond) (a : Word), P (Instr.callCc cc a))
    (retCc : ∀ (cc : Cond), P (Instr.retCc cc))
    (rst : ∀ (y : Fin 8), P (Instr.rst y))
    (rot : ∀ (o : RotOp) (x : R8), P (Instr.rot o x))
    (bit : ∀ (b : Fin 8) (x : R8), P (Instr.bit b x))
    (res : ∀ (b : Fin 8) (x : R8), P (Instr.res b x))
    (set : ∀ (b : Fin 8) (x : R8), P (Instr.set b x))
    (ldIndA16Sp : ∀ a, P (.ldIndA16Sp a))
    (stop : ∀ n, P (.stop n))
    (jrE8 : ∀ e, P (.jrE8 e))
    (jpA16 : ∀ a, P (.jpA16 a))
    (prefixCb : ∀ cb, P (.prefixCb cb))
    (callA16 : ∀ a, P (.callA16 a))
    (ldhIndA8A : ∀ n, P (.ldhIndA8A n))
    (addSpE8 : ∀ e, P (.addSpE8 e))
    (ldIndA16A : ∀ a, P (.ldIndA16A a))
    (ldhAIndA8 : ∀ n, P (.ldhAIndA8 n))
    (ldHlSpE8 : ∀ e, P (.ldHlSpE8 e))
    (ldAIndA16 : ∀ a, P (.ldAIndA16 a))
    (nop : P .nop)
    (ldIndBcA : P .ldIndBcA)
    (rlca : P .rlca)
    (ldAIndBc : P .ldAIndBc)
    (rrca : P .rrca)
    (ldIndDeA : P .ldIndDeA)
    (rla : P .rla)
    (ldAIndDe : P .ldAIndDe)
    (rra : P .rra)
    (ldIndHliA : P .ldIndHliA)
    (daa : P .daa)
    (ldAIndHli : P .ldAIndHli)
    (cpl : P .cpl)
    (ldIndHldA : P .ldIndHldA)
    (scf : P .scf)
    (ldAIndHld : P .ldAIndHld)
    (ccf : P .ccf)
    (halt : P .halt)
    (ret : P .ret)
    (reti : P .reti)
    (ldIndCA : P .ldIndCA)
    (jpHl : P .jpHl)
    (ldAIndC : P .ldAIndC)
    (di : P .di)
    (ldSpHl : P .ldSpHl)
    (ei : P .ei)
    (illegal : ∀ p ∈ Instr.illegalBytes, P p.2) :
    ∀ i : Instr, P i := by
  intro i
  cases i with
  | ldBcD16 n => exact ldPair .bc n
  | ldBD8 n => exact ldImm8 .b n
  | ldIndA16Sp a => exact ldIndA16Sp a
  | ldCD8 n => exact ldImm8 .c n
  | stop n => exact stop n
  | ldDeD16 n => exact ldPair .de n
  | ldDD8 n => exact ldImm8 .d n
  | jrE8 e => exact jrE8 e
  | ldED8 n => exact ldImm8 .e n
  | jrNzE8 e => exact jrCc .nz e
  | ldHlD16 n => exact ldPair .hl n
  | ldHD8 n => exact ldImm8 .h n
  | jrZE8 e => exact jrCc .z e
  | ldLD8 n => exact ldImm8 .l n
  | jrNcE8 e => exact jrCc .nc e
  | ldSpD16 n => exact ldPair .sp n
  | ldIndHlD8 n => exact ldImm8 .indHl n
  | jrCE8 e => exact jrCc .c e
  | ldAD8 n => exact ldImm8 .a n
  | jpNzA16 a => exact jpCc .nz a
  | jpA16 a => exact jpA16 a
  | callNzA16 a => exact callCc .nz a
  | addAD8 n => exact aluImm .add n
  | jpZA16 a => exact jpCc .z a
  | prefixCb cb => exact prefixCb cb
  | callZA16 a => exact callCc .z a
  | callA16 a => exact callA16 a
  | adcAD8 n => exact aluImm .adc n
  | jpNcA16 a => exact jpCc .nc a
  | callNcA16 a => exact callCc .nc a
  | subAD8 n => exact aluImm .sub n
  | jpCA16 a => exact jpCc .c a
  | callCA16 a => exact callCc .c a
  | sbcAD8 n => exact aluImm .sbc n
  | ldhIndA8A n => exact ldhIndA8A n
  | andAD8 n => exact aluImm .and n
  | addSpE8 e => exact addSpE8 e
  | ldIndA16A a => exact ldIndA16A a
  | xorAD8 n => exact aluImm .xor n
  | ldhAIndA8 n => exact ldhAIndA8 n
  | orAD8 n => exact aluImm .or n
  | ldHlSpE8 e => exact ldHlSpE8 e
  | ldAIndA16 a => exact ldAIndA16 a
  | cpAD8 n => exact aluImm .cp n
  | nop => exact nop
  | ldIndBcA => exact ldIndBcA
  | incBc => exact incPair .bc
  | incB => exact inc .b
  | decB => exact dec .b
  | rlca => exact rlca
  | addHlBc => exact addHl .bc
  | ldAIndBc => exact ldAIndBc
  | decBc => exact decPair .bc
  | incC => exact inc .c
  | decC => exact dec .c
  | rrca => exact rrca
  | ldIndDeA => exact ldIndDeA
  | incDe => exact incPair .de
  | incD => exact inc .d
  | decD => exact dec .d
  | rla => exact rla
  | addHlDe => exact addHl .de
  | ldAIndDe => exact ldAIndDe
  | decDe => exact decPair .de
  | incE => exact inc .e
  | decE => exact dec .e
  | rra => exact rra
  | ldIndHliA => exact ldIndHliA
  | incHl => exact incPair .hl
  | incH => exact inc .h
  | decH => exact dec .h
  | daa => exact daa
  | addHlHl => exact addHl .hl
  | ldAIndHli => exact ldAIndHli
  | decHl => exact decPair .hl
  | incL => exact inc .l
  | decL => exact dec .l
  | cpl => exact cpl
  | ldIndHldA => exact ldIndHldA
  | incSp => exact incPair .sp
  | incIndHl => exact inc .indHl
  | decIndHl => exact dec .indHl
  | scf => exact scf
  | addHlSp => exact addHl .sp
  | ldAIndHld => exact ldAIndHld
  | decSp => exact decPair .sp
  | incA => exact inc .a
  | decA => exact dec .a
  | ccf => exact ccf
  | ldBB => exact ldReg .b .b
  | ldBC => exact ldReg .b .c
  | ldBD => exact ldReg .b .d
  | ldBE => exact ldReg .b .e
  | ldBH => exact ldReg .b .h
  | ldBL => exact ldReg .b .l
  | ldBIndHl => exact ldRegHl .b
  | ldBA => exact ldReg .b .a
  | ldCB => exact ldReg .c .b
  | ldCC => exact ldReg .c .c
  | ldCD => exact ldReg .c .d
  | ldCE => exact ldReg .c .e
  | ldCH => exact ldReg .c .h
  | ldCL => exact ldReg .c .l
  | ldCIndHl => exact ldRegHl .c
  | ldCA => exact ldReg .c .a
  | ldDB => exact ldReg .d .b
  | ldDC => exact ldReg .d .c
  | ldDD => exact ldReg .d .d
  | ldDE => exact ldReg .d .e
  | ldDH => exact ldReg .d .h
  | ldDL => exact ldReg .d .l
  | ldDIndHl => exact ldRegHl .d
  | ldDA => exact ldReg .d .a
  | ldEB => exact ldReg .e .b
  | ldEC => exact ldReg .e .c
  | ldED => exact ldReg .e .d
  | ldEE => exact ldReg .e .e
  | ldEH => exact ldReg .e .h
  | ldEL => exact ldReg .e .l
  | ldEIndHl => exact ldRegHl .e
  | ldEA => exact ldReg .e .a
  | ldHB => exact ldReg .h .b
  | ldHC => exact ldReg .h .c
  | ldHD => exact ldReg .h .d
  | ldHE => exact ldReg .h .e
  | ldHH => exact ldReg .h .h
  | ldHL => exact ldReg .h .l
  | ldHIndHl => exact ldRegHl .h
  | ldHA => exact ldReg .h .a
  | ldLB => exact ldReg .l .b
  | ldLC => exact ldReg .l .c
  | ldLD => exact ldReg .l .d
  | ldLE => exact ldReg .l .e
  | ldLH => exact ldReg .l .h
  | ldLL => exact ldReg .l .l
  | ldLIndHl => exact ldRegHl .l
  | ldLA => exact ldReg .l .a
  | ldIndHlB => exact ldHlReg .b
  | ldIndHlC => exact ldHlReg .c
  | ldIndHlD => exact ldHlReg .d
  | ldIndHlE => exact ldHlReg .e
  | ldIndHlH => exact ldHlReg .h
  | ldIndHlL => exact ldHlReg .l
  | halt => exact halt
  | ldIndHlA => exact ldHlReg .a
  | ldAB => exact ldReg .a .b
  | ldAC => exact ldReg .a .c
  | ldAD => exact ldReg .a .d
  | ldAE => exact ldReg .a .e
  | ldAH => exact ldReg .a .h
  | ldAL => exact ldReg .a .l
  | ldAIndHl => exact ldRegHl .a
  | ldAA => exact ldReg .a .a
  | addAB => exact alu .add .b
  | addAC => exact alu .add .c
  | addAD => exact alu .add .d
  | addAE => exact alu .add .e
  | addAH => exact alu .add .h
  | addAL => exact alu .add .l
  | addAIndHl => exact alu .add .indHl
  | addAA => exact alu .add .a
  | adcAB => exact alu .adc .b
  | adcAC => exact alu .adc .c
  | adcAD => exact alu .adc .d
  | adcAE => exact alu .adc .e
  | adcAH => exact alu .adc .h
  | adcAL => exact alu .adc .l
  | adcAIndHl => exact alu .adc .indHl
  | adcAA => exact alu .adc .a
  | subAB => exact alu .sub .b
  | subAC => exact alu .sub .c
  | subAD => exact alu .sub .d
  | subAE => exact alu .sub .e
  | subAH => exact alu .sub .h
  | subAL => exact alu .sub .l
  | subAIndHl => exact alu .sub .indHl
  | subAA => exact alu .sub .a
  | sbcAB => exact alu .sbc .b
  | sbcAC => exact alu .sbc .c
  | sbcAD => exact alu .sbc .d
  | sbcAE => exact alu .sbc .e
  | sbcAH => exact alu .sbc .h
  | sbcAL => exact alu .sbc .l
  | sbcAIndHl => exact alu .sbc .indHl
  | sbcAA => exact alu .sbc .a
  | andAB => exact alu .and .b
  | andAC => exact alu .and .c
  | andAD => exact alu .and .d
  | andAE => exact alu .and .e
  | andAH => exact alu .and .h
  | andAL => exact alu .and .l
  | andAIndHl => exact alu .and .indHl
  | andAA => exact alu .and .a
  | xorAB => exact alu .xor .b
  | xorAC => exact alu .xor .c
  | xorAD => exact alu .xor .d
  | xorAE => exact alu .xor .e
  | xorAH => exact alu .xor .h
  | xorAL => exact alu .xor .l
  | xorAIndHl => exact alu .xor .indHl
  | xorAA => exact alu .xor .a
  | orAB => exact alu .or .b
  | orAC => exact alu .or .c
  | orAD => exact alu .or .d
  | orAE => exact alu .or .e
  | orAH => exact alu .or .h
  | orAL => exact alu .or .l
  | orAIndHl => exact alu .or .indHl
  | orAA => exact alu .or .a
  | cpAB => exact alu .cp .b
  | cpAC => exact alu .cp .c
  | cpAD => exact alu .cp .d
  | cpAE => exact alu .cp .e
  | cpAH => exact alu .cp .h
  | cpAL => exact alu .cp .l
  | cpAIndHl => exact alu .cp .indHl
  | cpAA => exact alu .cp .a
  | retNz => exact retCc .nz
  | popBc => exact pop .bc
  | pushBc => exact push .bc
  | rst00 => exact rst 0
  | retZ => exact retCc .z
  | ret => exact ret
  | rst08 => exact rst 1
  | retNc => exact retCc .nc
  | popDe => exact pop .de
  | illegalD3 => exact illegal (0xD3, .illegalD3) (by simp [Instr.illegalBytes])
  | pushDe => exact push .de
  | rst10 => exact rst 2
  | retC => exact retCc .c
  | reti => exact reti
  | illegalDB => exact illegal (0xDB, .illegalDB) (by simp [Instr.illegalBytes])
  | illegalDD => exact illegal (0xDD, .illegalDD) (by simp [Instr.illegalBytes])
  | rst18 => exact rst 3
  | popHl => exact pop .hl
  | ldIndCA => exact ldIndCA
  | illegalE3 => exact illegal (0xE3, .illegalE3) (by simp [Instr.illegalBytes])
  | illegalE4 => exact illegal (0xE4, .illegalE4) (by simp [Instr.illegalBytes])
  | pushHl => exact push .hl
  | rst20 => exact rst 4
  | jpHl => exact jpHl
  | illegalEB => exact illegal (0xEB, .illegalEB) (by simp [Instr.illegalBytes])
  | illegalEC => exact illegal (0xEC, .illegalEC) (by simp [Instr.illegalBytes])
  | illegalED => exact illegal (0xED, .illegalED) (by simp [Instr.illegalBytes])
  | rst28 => exact rst 5
  | popAf => exact pop .af
  | ldAIndC => exact ldAIndC
  | di => exact di
  | illegalF4 => exact illegal (0xF4, .illegalF4) (by simp [Instr.illegalBytes])
  | pushAf => exact push .af
  | rst30 => exact rst 6
  | ldSpHl => exact ldSpHl
  | ei => exact ei
  | illegalFC => exact illegal (0xFC, .illegalFC) (by simp [Instr.illegalBytes])
  | illegalFD => exact illegal (0xFD, .illegalFD) (by simp [Instr.illegalBytes])
  | rst38 => exact rst 7
  | rlcB => exact rot .rlc .b
  | rlcC => exact rot .rlc .c
  | rlcD => exact rot .rlc .d
  | rlcE => exact rot .rlc .e
  | rlcH => exact rot .rlc .h
  | rlcL => exact rot .rlc .l
  | rlcIndHl => exact rot .rlc .indHl
  | rlcA => exact rot .rlc .a
  | rrcB => exact rot .rrc .b
  | rrcC => exact rot .rrc .c
  | rrcD => exact rot .rrc .d
  | rrcE => exact rot .rrc .e
  | rrcH => exact rot .rrc .h
  | rrcL => exact rot .rrc .l
  | rrcIndHl => exact rot .rrc .indHl
  | rrcA => exact rot .rrc .a
  | rlB => exact rot .rl .b
  | rlC => exact rot .rl .c
  | rlD => exact rot .rl .d
  | rlE => exact rot .rl .e
  | rlH => exact rot .rl .h
  | rlL => exact rot .rl .l
  | rlIndHl => exact rot .rl .indHl
  | rlA => exact rot .rl .a
  | rrB => exact rot .rr .b
  | rrC => exact rot .rr .c
  | rrD => exact rot .rr .d
  | rrE => exact rot .rr .e
  | rrH => exact rot .rr .h
  | rrL => exact rot .rr .l
  | rrIndHl => exact rot .rr .indHl
  | rrA => exact rot .rr .a
  | slaB => exact rot .sla .b
  | slaC => exact rot .sla .c
  | slaD => exact rot .sla .d
  | slaE => exact rot .sla .e
  | slaH => exact rot .sla .h
  | slaL => exact rot .sla .l
  | slaIndHl => exact rot .sla .indHl
  | slaA => exact rot .sla .a
  | sraB => exact rot .sra .b
  | sraC => exact rot .sra .c
  | sraD => exact rot .sra .d
  | sraE => exact rot .sra .e
  | sraH => exact rot .sra .h
  | sraL => exact rot .sra .l
  | sraIndHl => exact rot .sra .indHl
  | sraA => exact rot .sra .a
  | swapB => exact rot .swap .b
  | swapC => exact rot .swap .c
  | swapD => exact rot .swap .d
  | swapE => exact rot .swap .e
  | swapH => exact rot .swap .h
  | swapL => exact rot .swap .l
  | swapIndHl => exact rot .swap .indHl
  | swapA => exact rot .swap .a
  | srlB => exact rot .srl .b
  | srlC => exact rot .srl .c
  | srlD => exact rot .srl .d
  | srlE => exact rot .srl .e
  | srlH => exact rot .srl .h
  | srlL => exact rot .srl .l
  | srlIndHl => exact rot .srl .indHl
  | srlA => exact rot .srl .a
  | bit0B => exact bit 0 .b
  | bit0C => exact bit 0 .c
  | bit0D => exact bit 0 .d
  | bit0E => exact bit 0 .e
  | bit0H => exact bit 0 .h
  | bit0L => exact bit 0 .l
  | bit0IndHl => exact bit 0 .indHl
  | bit0A => exact bit 0 .a
  | bit1B => exact bit 1 .b
  | bit1C => exact bit 1 .c
  | bit1D => exact bit 1 .d
  | bit1E => exact bit 1 .e
  | bit1H => exact bit 1 .h
  | bit1L => exact bit 1 .l
  | bit1IndHl => exact bit 1 .indHl
  | bit1A => exact bit 1 .a
  | bit2B => exact bit 2 .b
  | bit2C => exact bit 2 .c
  | bit2D => exact bit 2 .d
  | bit2E => exact bit 2 .e
  | bit2H => exact bit 2 .h
  | bit2L => exact bit 2 .l
  | bit2IndHl => exact bit 2 .indHl
  | bit2A => exact bit 2 .a
  | bit3B => exact bit 3 .b
  | bit3C => exact bit 3 .c
  | bit3D => exact bit 3 .d
  | bit3E => exact bit 3 .e
  | bit3H => exact bit 3 .h
  | bit3L => exact bit 3 .l
  | bit3IndHl => exact bit 3 .indHl
  | bit3A => exact bit 3 .a
  | bit4B => exact bit 4 .b
  | bit4C => exact bit 4 .c
  | bit4D => exact bit 4 .d
  | bit4E => exact bit 4 .e
  | bit4H => exact bit 4 .h
  | bit4L => exact bit 4 .l
  | bit4IndHl => exact bit 4 .indHl
  | bit4A => exact bit 4 .a
  | bit5B => exact bit 5 .b
  | bit5C => exact bit 5 .c
  | bit5D => exact bit 5 .d
  | bit5E => exact bit 5 .e
  | bit5H => exact bit 5 .h
  | bit5L => exact bit 5 .l
  | bit5IndHl => exact bit 5 .indHl
  | bit5A => exact bit 5 .a
  | bit6B => exact bit 6 .b
  | bit6C => exact bit 6 .c
  | bit6D => exact bit 6 .d
  | bit6E => exact bit 6 .e
  | bit6H => exact bit 6 .h
  | bit6L => exact bit 6 .l
  | bit6IndHl => exact bit 6 .indHl
  | bit6A => exact bit 6 .a
  | bit7B => exact bit 7 .b
  | bit7C => exact bit 7 .c
  | bit7D => exact bit 7 .d
  | bit7E => exact bit 7 .e
  | bit7H => exact bit 7 .h
  | bit7L => exact bit 7 .l
  | bit7IndHl => exact bit 7 .indHl
  | bit7A => exact bit 7 .a
  | res0B => exact res 0 .b
  | res0C => exact res 0 .c
  | res0D => exact res 0 .d
  | res0E => exact res 0 .e
  | res0H => exact res 0 .h
  | res0L => exact res 0 .l
  | res0IndHl => exact res 0 .indHl
  | res0A => exact res 0 .a
  | res1B => exact res 1 .b
  | res1C => exact res 1 .c
  | res1D => exact res 1 .d
  | res1E => exact res 1 .e
  | res1H => exact res 1 .h
  | res1L => exact res 1 .l
  | res1IndHl => exact res 1 .indHl
  | res1A => exact res 1 .a
  | res2B => exact res 2 .b
  | res2C => exact res 2 .c
  | res2D => exact res 2 .d
  | res2E => exact res 2 .e
  | res2H => exact res 2 .h
  | res2L => exact res 2 .l
  | res2IndHl => exact res 2 .indHl
  | res2A => exact res 2 .a
  | res3B => exact res 3 .b
  | res3C => exact res 3 .c
  | res3D => exact res 3 .d
  | res3E => exact res 3 .e
  | res3H => exact res 3 .h
  | res3L => exact res 3 .l
  | res3IndHl => exact res 3 .indHl
  | res3A => exact res 3 .a
  | res4B => exact res 4 .b
  | res4C => exact res 4 .c
  | res4D => exact res 4 .d
  | res4E => exact res 4 .e
  | res4H => exact res 4 .h
  | res4L => exact res 4 .l
  | res4IndHl => exact res 4 .indHl
  | res4A => exact res 4 .a
  | res5B => exact res 5 .b
  | res5C => exact res 5 .c
  | res5D => exact res 5 .d
  | res5E => exact res 5 .e
  | res5H => exact res 5 .h
  | res5L => exact res 5 .l
  | res5IndHl => exact res 5 .indHl
  | res5A => exact res 5 .a
  | res6B => exact res 6 .b
  | res6C => exact res 6 .c
  | res6D => exact res 6 .d
  | res6E => exact res 6 .e
  | res6H => exact res 6 .h
  | res6L => exact res 6 .l
  | res6IndHl => exact res 6 .indHl
  | res6A => exact res 6 .a
  | res7B => exact res 7 .b
  | res7C => exact res 7 .c
  | res7D => exact res 7 .d
  | res7E => exact res 7 .e
  | res7H => exact res 7 .h
  | res7L => exact res 7 .l
  | res7IndHl => exact res 7 .indHl
  | res7A => exact res 7 .a
  | set0B => exact set 0 .b
  | set0C => exact set 0 .c
  | set0D => exact set 0 .d
  | set0E => exact set 0 .e
  | set0H => exact set 0 .h
  | set0L => exact set 0 .l
  | set0IndHl => exact set 0 .indHl
  | set0A => exact set 0 .a
  | set1B => exact set 1 .b
  | set1C => exact set 1 .c
  | set1D => exact set 1 .d
  | set1E => exact set 1 .e
  | set1H => exact set 1 .h
  | set1L => exact set 1 .l
  | set1IndHl => exact set 1 .indHl
  | set1A => exact set 1 .a
  | set2B => exact set 2 .b
  | set2C => exact set 2 .c
  | set2D => exact set 2 .d
  | set2E => exact set 2 .e
  | set2H => exact set 2 .h
  | set2L => exact set 2 .l
  | set2IndHl => exact set 2 .indHl
  | set2A => exact set 2 .a
  | set3B => exact set 3 .b
  | set3C => exact set 3 .c
  | set3D => exact set 3 .d
  | set3E => exact set 3 .e
  | set3H => exact set 3 .h
  | set3L => exact set 3 .l
  | set3IndHl => exact set 3 .indHl
  | set3A => exact set 3 .a
  | set4B => exact set 4 .b
  | set4C => exact set 4 .c
  | set4D => exact set 4 .d
  | set4E => exact set 4 .e
  | set4H => exact set 4 .h
  | set4L => exact set 4 .l
  | set4IndHl => exact set 4 .indHl
  | set4A => exact set 4 .a
  | set5B => exact set 5 .b
  | set5C => exact set 5 .c
  | set5D => exact set 5 .d
  | set5E => exact set 5 .e
  | set5H => exact set 5 .h
  | set5L => exact set 5 .l
  | set5IndHl => exact set 5 .indHl
  | set5A => exact set 5 .a
  | set6B => exact set 6 .b
  | set6C => exact set 6 .c
  | set6D => exact set 6 .d
  | set6E => exact set 6 .e
  | set6H => exact set 6 .h
  | set6L => exact set 6 .l
  | set6IndHl => exact set 6 .indHl
  | set6A => exact set 6 .a
  | set7B => exact set 7 .b
  | set7C => exact set 7 .c
  | set7D => exact set 7 .d
  | set7E => exact set 7 .e
  | set7H => exact set 7 .h
  | set7L => exact set 7 .l
  | set7IndHl => exact set 7 .indHl
  | set7A => exact set 7 .a

namespace Machine

@[simp] theorem exec_ldReg (rd rs : Reg8) (s : State) : exec (Instr.ldReg rd rs) s = .next (s.copyReg rd rs) := by
  cases rd <;> cases rs <;> rfl

@[simp] theorem exec_ldRegHl (rd : Reg8) (s : State) : exec (Instr.ldRegHl rd) s = .next (s.loadReg rd) := by
  cases rd <;> rfl

@[simp] theorem exec_ldHlReg (rs : Reg8) (s : State) : exec (Instr.ldHlReg rs) s = .next (s.storeReg rs) := by
  cases rs <;> rfl

@[simp] theorem exec_ldImm8 (x : R8) (n : Byte) (s : State) : exec (Instr.ldImm8 x n) s = .next (s.loadImm x n) := by
  cases x <;> rfl

@[simp] theorem exec_ldPair (p : R16) (n : Word) (s : State) : exec (Instr.ldPair p n) s = .next (s.loadPair p n) := by
  cases p <;> rfl

@[simp] theorem exec_push (p : R16Stk) (s : State) : exec (Instr.push p) s = .next (s.pushPair p) := by
  cases p <;> rfl

@[simp] theorem exec_pop (p : R16Stk) (s : State) : exec (Instr.pop p) s = .next (s.popPair p) := by
  cases p <;> rfl

@[simp] theorem exec_alu (o : AluOp) (x : R8) (s : State) : exec (Instr.alu o x) s = .next (s.aluR8 o x) := by
  cases o <;> cases x <;> rfl

@[simp] theorem exec_aluImm (o : AluOp) (n : Byte) (s : State) : exec (Instr.aluImm o n) s = .next (s.aluImm o n) := by
  cases o <;> rfl

@[simp] theorem exec_inc (x : R8) (s : State) : exec (Instr.inc x) s = .next (s.incR8 x) := by
  cases x <;> rfl

@[simp] theorem exec_dec (x : R8) (s : State) : exec (Instr.dec x) s = .next (s.decR8 x) := by
  cases x <;> rfl

@[simp] theorem exec_addHl (p : R16) (s : State) : exec (Instr.addHl p) s = .next (s.addHl p) := by
  cases p <;> rfl

@[simp] theorem exec_incPair (p : R16) (s : State) : exec (Instr.incPair p) s = .next (s.incPair p) := by
  cases p <;> rfl

@[simp] theorem exec_decPair (p : R16) (s : State) : exec (Instr.decPair p) s = .next (s.decPair p) := by
  cases p <;> rfl

@[simp] theorem exec_jrCc (cc : Cond) (e : Byte) (s : State) : exec (Instr.jrCc cc e) s = .next (s.jumpRelCc cc e) := by
  cases cc <;> rfl

@[simp] theorem exec_jpCc (cc : Cond) (a : Word) (s : State) : exec (Instr.jpCc cc a) s = .next (s.jumpCc cc a) := by
  cases cc <;> rfl

@[simp] theorem exec_callCc (cc : Cond) (a : Word) (s : State) : exec (Instr.callCc cc a) s = .next (s.callCc cc a) := by
  cases cc <;> rfl

@[simp] theorem exec_retCc (cc : Cond) (s : State) : exec (Instr.retCc cc) s = .next (s.retCc cc) := by
  cases cc <;> rfl

@[simp] theorem exec_rst (y : Fin 8) (s : State) : exec (Instr.rst y) s = .next (s.call (BitVec.ofNat 16 (8 * y.val)) 16) := by
  match y with
  | 0 => rfl
  | 1 => rfl
  | 2 => rfl
  | 3 => rfl
  | 4 => rfl
  | 5 => rfl
  | 6 => rfl
  | 7 => rfl

@[simp] theorem exec_rot (o : RotOp) (x : R8) (s : State) : exec (Instr.rot o x) s = .next (s.rotR8 o x) := by
  cases o <;> cases x <;> rfl

@[simp] theorem exec_bit (b : Fin 8) (x : R8) (s : State) : exec (Instr.bit b x) s = .next (s.bitR8 b x) := by
  match b with
  | 0 => cases x <;> rfl
  | 1 => cases x <;> rfl
  | 2 => cases x <;> rfl
  | 3 => cases x <;> rfl
  | 4 => cases x <;> rfl
  | 5 => cases x <;> rfl
  | 6 => cases x <;> rfl
  | 7 => cases x <;> rfl

@[simp] theorem exec_res (b : Fin 8) (x : R8) (s : State) : exec (Instr.res b x) s = .next (s.resR8 b x) := by
  match b with
  | 0 => cases x <;> rfl
  | 1 => cases x <;> rfl
  | 2 => cases x <;> rfl
  | 3 => cases x <;> rfl
  | 4 => cases x <;> rfl
  | 5 => cases x <;> rfl
  | 6 => cases x <;> rfl
  | 7 => cases x <;> rfl

@[simp] theorem exec_set (b : Fin 8) (x : R8) (s : State) : exec (Instr.set b x) s = .next (s.setR8 b x) := by
  match b with
  | 0 => cases x <;> rfl
  | 1 => cases x <;> rfl
  | 2 => cases x <;> rfl
  | 3 => cases x <;> rfl
  | 4 => cases x <;> rfl
  | 5 => cases x <;> rfl
  | 6 => cases x <;> rfl
  | 7 => cases x <;> rfl

theorem exec_illegal {p : Byte × Instr} (h : p ∈ Instr.illegalBytes) (s : State) : exec p.2 s = .next (s.illegal p.1) := by
  simp only [Instr.illegalBytes, List.mem_cons, List.not_mem_nil, or_false] at h
  rcases h with rfl | rfl | rfl | rfl | rfl | rfl | rfl | rfl | rfl | rfl | rfl <;> rfl

end Machine

end Sys2Proof
end

