-- ==== Sys2Proof/Laws/Effect.lean ====
section
/-!
SUPPORT. Everything an instruction can do, said once: whatever its meaning, it only sets CPU registers (F with its low nibble
kept or clear), writes bytes through the router, sets the cycle count and reports an illegal opcode. Each invariant of an
instruction is then five cases.
-/

namespace Sys2Proof.Machine

/-- What the meanings are made of, from s on. -/
inductive Effect (s : State) : State → Prop where
  | start : Effect s s
  | cycles {t : State} (n : Nat) : Effect s t → Effect s (t.withCycles n)
  | cpu {t : State} (c : Cpu) : c.f = t.cpu.f ∨ c.f &&& 0x0F = 0 → Effect s t → Effect s { t with cpu := c }
  | store {t : State} (a : Word) (v : Byte) : Effect s t → Effect s (t.memWrite a v)
  | illegal {t : State} (op : Byte) (a : Word) : Effect s t → Effect s (t.addDiag (.unknownOpcode op a))

namespace Effect

variable {s t : State}

theorem setReg (h : Effect s t) (r : Reg8) (v : Byte) : Effect s (t.setReg r v) := h.cpu _ (.inl (by simp))

theorem setPair (h : Effect s t) (p : R16) (v : Word) : Effect s (t.setPair p v) := h.cpu _ (.inl (by simp))

theorem setStackPair (h : Effect s t) (p : R16Stk) (v : Word) : Effect s (t.setStackPair p v) := by
  refine h.cpu _ ?_
  cases p
  · exact .inl rfl
  · exact .inl rfl
  · exact .inl rfl
  · exact .inr (maskF_low _)

theorem setSp (h : Effect s t) (v : Word) : Effect s (t.setSp v) := h.cpu _ (.inl rfl)

theorem setPc (h : Effect s t) (v : Word) : Effect s (t.setPc v) := h.cpu _ (.inl rfl)

theorem setFlags (h : Effect s t) (z n hc c : Bool) : Effect s (t.setFlags z n hc c) := h.cpu _ (.inr (packF_low z n hc c))

theorem writeR8 (h : Effect s t) (x : R8) (v : Byte) : Effect s (t.writeR8 x v) := by
  cases x <;> first | exact h.store _ _ | exact h.setReg _ _

theorem push16 (h : Effect s t) (v : Word) : Effect s (t.push16 v) := (((h.setSp _).store _ _).setSp _).store _ _

theorem memWrite16 (h : Effect s t) (a v : Word) : Effect s (t.memWrite16 a v) := (h.store _ _).store _ _

theorem dropTop (h : Effect s t) : Effect s t.dropTop := h.setSp _

theorem alu (s : State) (o : AluOp) (b : Byte) : Effect s (s.alu o b) := by
  cases o <;> first | exact start.setFlags _ _ _ _ | exact (start.setReg _ _).setFlags _ _ _ _

theorem copyReg (s : State) (rd rs : Reg8) : Effect s (s.copyReg rd rs) := (start.setReg _ _).cycles _
theorem loadReg (s : State) (rd : Reg8) : Effect s (s.loadReg rd) := (start.setReg _ _).cycles _
theorem storeReg (s : State) (rs : Reg8) : Effect s (s.storeReg rs) := (start.store _ _).cycles _
theorem loadImm (s : State) (x : R8) (n : Byte) : Effect s (s.loadImm x n) := (start.writeR8 _ _).cycles _
theorem loadA (s : State) (a : Word) (n : Nat) : Effect s (s.loadA a n) := (start.setReg _ _).cycles _
theorem storeA (s : State) (a : Word) (n : Nat) : Effect s (s.storeA a n) := (start.store _ _).cycles _
theorem storeAStep (s : State) (d : Word) : Effect s (s.storeAStep d) := ((start.store _ _).setPair _ _).cycles _
theorem loadAStep (s : State) (d : Word) : Effect s (s.loadAStep d) := ((start.setReg _ _).setPair _ _).cycles _
theorem loadPair (s : State) (p : R16) (n : Word) : Effect s (s.loadPair p n) := (start.setPair _ _).cycles _
theorem storeSp (s : State) (a : Word) : Effect s (s.storeSp a) := (start.memWrite16 _ _).cycles _
theorem loadSpHl (s : State) : Effect s s.loadSpHl := (start.setSp _).cycles _
theorem loadHlSp (s : State) (e : Byte) : Effect s (s.loadHlSp e) := ((start.setPair _ _).setFlags _ _ _ _).cycles _
theorem pushPair (s : State) (p : R16Stk) : Effect s (s.pushPair p) := (start.push16 _).cycles _
theorem popPair (s : State) (p : R16Stk) : Effect s (s.popPair p) := (start.dropTop.setStackPair _ _).cycles _
theorem aluR8 (s : State) (o : AluOp) (x : R8) : Effect s (s.aluR8 o x) := (alu s o _).cycles _
theorem aluImm (s : State) (o : AluOp) (n : Byte) : Effect s (s.aluImm o n) := (alu s o n).cycles _
theorem incR8 (s : State) (x : R8) : Effect s (s.incR8 x) := ((start.writeR8 _ _).setFlags _ _ _ _).cycles _
theorem decR8 (s : State) (x : R8) : Effect s (s.decR8 x) := ((start.writeR8 _ _).setFlags _ _ _ _).cycles _
theorem addHl (s : State) (p : R16) : Effect s (s.addHl p) := ((start.setPair _ _).setFlags _ _ _ _).cycles _
theorem incPair (s : State) (p : R16) : Effect s (s.incPair p) := (start.setPair _ _).cycles _
theorem decPair (s : State) (p : R16) : Effect s (s.decPair p) := (start.setPair _ _).cycles _
theorem addSp (s : State) (e : Byte) : Effect s (s.addSp e) := ((start.setSp _).setFlags _ _ _ _).cycles _
theorem rotA (s : State) (o : RotOp) : Effect s (s.rotA o) := ((start.setReg _ _).setFlags _ _ _ _).cycles _
theorem rotR8 (s : State) (o : RotOp) (x : R8) : Effect s (s.rotR8 o x) := ((start.writeR8 _ _).setFlags _ _ _ _).cycles _
theorem bitR8 (s : State) (b : Fin 8) (x : R8) : Effect s (s.bitR8 b x) := (start.setFlags _ _ _ _).cycles _
theorem resR8 (s : State) (b : Fin 8) (x : R8) : Effect s (s.resR8 b x) := (start.writeR8 _ _).cycles _
theorem setR8 (s : State) (b : Fin 8) (x : R8) : Effect s (s.setR8 b x) := (start.writeR8 _ _).cycles _

theorem cbByte (s : State) (cb : Byte) : Effect s (s.cbByte cb) := by
  unfold State.cbByte
  split
  · exact rotR8 s _ _
  · exact bitR8 s _ _
  · exact resR8 s _ _
  · exact setR8 s _ _

theorem jump (s : State) (a : Word) : Effect s (s.jump a) := (start.setPc _).cycles _
theorem jumpHl (s : State) : Effect s s.jumpHl := (start.setPc _).cycles _
theorem jumpRel (s : State) (e : Byte) : Effect s (s.jumpRel e) := (start.setPc _).cycles _
theorem call (s : State) (a : Word) (n : Nat) : Effect s (s.call a n) := ((start.push16 _).setPc _).cycles _
theorem ret (s : State) (n : Nat) : Effect s (s.ret n) := (start.dropTop.setPc _).cycles _

theorem jumpCc (s : State) (cc : Cond) (a : Word) : Effect s (s.jumpCc cc a) := by
  unfold State.jumpCc; split
  · exact jump s a
  · exact start.cycles _

theorem jumpRelCc (s : State) (cc : Cond) (e : Byte) : Effect s (s.jumpRelCc cc e) := by
  unfold State.jumpRelCc; split
  · exact jumpRel s e
  · exact start.cycles _

theorem callCc (s : State) (cc : Cond) (a : Word) : Effect s (s.callCc cc a) := by
  unfold State.callCc; split
  · exact call s a _
  · exact start.cycles _

theorem retCc (s : State) (cc : Cond) : Effect s (s.retCc cc) := by
  unfold State.retCc; split
  · exact ret s _
  · exact start.cycles _

theorem reti (s : State) : Effect s s.reti :=
  ((start.dropTop.setPc s.stackTop).cpu { (s.dropTop.setPc s.stackTop).cpu with ime := true, imePending := false } (.inl rfl)).cycles 16

theorem nop (s : State) : Effect s s.nop := start.cycles _
theorem haltCpu (s : State) : Effect s s.haltCpu := (start.cpu { s.cpu with halt := true } (.inl rfl)).cycles _
theorem stopCpu (s : State) (n : Byte) : Effect s (s.stopCpu n) := (start.cpu { s.cpu with stop := true } (.inl rfl)).cycles _
theorem illegalOp (s : State) (op : Byte) : Effect s (s.illegal op) := (start.illegal _ _).cycles _
theorem disableInts (s : State) : Effect s s.disableInts :=
  (start.cpu { s.cpu with ime := false, imePending := false } (.inl rfl)).cycles _

theorem enableInts (s : State) : Effect s s.enableInts := by
  unfold State.enableInts
  split
  · exact (start.cpu { s.cpu with imePending := true } (.inl rfl)).cycles _
  · exact (start.cpu { s.cpu with ime := true } (.inl rfl)).cycles _

theorem daa (s : State) : Effect s s.daa := ((start.setReg _ _).setFlags _ _ _ _).cycles _
theorem cpl (s : State) : Effect s s.cpl := ((start.setReg _ _).setFlags _ _ _ _).cycles _
theorem scf (s : State) : Effect s s.scf := (start.setFlags _ _ _ _).cycles _
theorem ccf (s : State) : Effect s s.ccf := (start.setFlags _ _ _ _).cycles _

end Effect

open Effect in
/-- Whatever instruction runs, its next state is made of the five kinds of change. -/
theorem exec_effect (i : Instr) : ∀ {s t : State}, exec i s = .next t → Effect s t := by
  cases i using Instr.byFamily
  case ldReg rd rs => intro s t h; rw [exec_ldReg] at h; cases h; exact copyReg s rd rs
  case ldRegHl rd => intro s t h; rw [exec_ldRegHl] at h; cases h; exact loadReg s rd
  case ldHlReg rs => intro s t h; rw [exec_ldHlReg] at h; cases h; exact storeReg s rs
  case ldImm8 x n => intro s t h; rw [exec_ldImm8] at h; cases h; exact loadImm s x n
  case ldPair p n => intro s t h; rw [exec_ldPair] at h; cases h; exact loadPair s p n
  case push p => intro s t h; rw [exec_push] at h; cases h; exact pushPair s p
  case pop p => intro s t h; rw [exec_pop] at h; cases h; exact popPair s p
  case alu o x => intro s t h; rw [exec_alu] at h; cases h; exact aluR8 s o x
  case aluImm o n => intro s t h; rw [exec_aluImm] at h; cases h; exact Effect.aluImm s o n
  case inc x => intro s t h; rw [exec_inc] at h; cases h; exact incR8 s x
  case dec x => intro s t h; rw [exec_dec] at h; cases h; exact decR8 s x
  case addHl p => intro s t h; rw [exec_addHl] at h; cases h; exact Effect.addHl s p
  case incPair p => intro s t h; rw [exec_incPair] at h; cases h; exact Effect.incPair s p
  case decPair p => intro s t h; rw [exec_decPair] at h; cases h; exact Effect.decPair s p
  case jrCc cc e => intro s t h; rw [exec_jrCc] at h; cases h; exact jumpRelCc s cc e
  case jpCc cc a => intro s t h; rw [exec_jpCc] at h; cases h; exact jumpCc s cc a
  case callCc cc a => intro s t h; rw [exec_callCc] at h; cases h; exact Effect.callCc s cc a
  case retCc cc => intro s t h; rw [exec_retCc] at h; cases h; exact Effect.retCc s cc
  case rst y => intro s t h; rw [exec_rst] at h; cases h; exact call s _ _
  case rot o x => intro s t h; rw [exec_rot] at h; cases h; exact rotR8 s o x
  case bit b x => intro s t h; rw [exec_bit] at h; cases h; exact bitR8 s b x
  case res b x => intro s t h; rw [exec_res] at h; cases h; exact resR8 s b x
  case set b x => intro s t h; rw [exec_set] at h; cases h; exact setR8 s b x
  case illegal p hp => intro s t h; rw [exec_illegal hp] at h; cases h; exact illegalOp s p.1
  case ldIndA16Sp a => intro s t h; cases h; exact storeSp s a
  case stop n => intro s t h; cases h; exact stopCpu s n
  case jrE8 e => intro s t h; cases h; exact jumpRel s e
  case jpA16 a => intro s t h; cases h; exact jump s a
  case prefixCb cb => intro s t h; cases h; exact cbByte s cb
  case callA16 a => intro s t h; cases h; exact call s a 24
  case ldhIndA8A n => intro s t h; cases h; exact storeA s _ _
  case addSpE8 e => intro s t h; cases h; exact addSp s e
  case ldIndA16A a => intro s t h; cases h; exact storeA s a _
  case ldhAIndA8 n => intro s t h; cases h; exact loadA s _ _
  case ldHlSpE8 e => intro s t h; cases h; exact loadHlSp s e
  case ldAIndA16 a => intro s t h; cases h; exact loadA s a _
  case nop => intro s t h; cases h; exact Effect.nop s
  case ldIndBcA => intro s t h; cases h; exact storeA s _ _
  case rlca => intro s t h; cases h; exact rotA s .rlc
  case ldAIndBc => intro s t h; cases h; exact loadA s _ _
  case rrca => intro s t h; cases h; exact rotA s .rrc
  case ldIndDeA => intro s t h; cases h; exact storeA s _ _
  case rla => intro s t h; cases h; exact rotA s .rl
  case ldAIndDe => intro s t h; cases h; exact loadA s _ _
  case rra => intro s t h; cases h; exact rotA s .rr
  case ldIndHliA => intro s t h; cases h; exact storeAStep s _
  case daa => intro s t h; cases h; exact Effect.daa s
  case ldAIndHli => intro s t h; cases h; exact loadAStep s _
  case cpl => intro s t h; cases h; exact Effect.cpl s
  case ldIndHldA => intro s t h; cases h; exact storeAStep s _
  case scf => intro s t h; cases h; exact Effect.scf s
  case ldAIndHld => intro s t h; cases h; exact loadAStep s _
  case ccf => intro s t h; cases h; exact Effect.ccf s
  case halt => intro s t h; cases h; exact haltCpu s
  case ret => intro s t h; cases h; exact Effect.ret s 16
  case reti => intro s t h; cases h; exact Effect.reti s
  case ldIndCA => intro s t h; cases h; exact storeA s _ _
  case jpHl => intro s t h; cases h; exact jumpHl s
  case ldAIndC => intro s t h; cases h; exact loadA s _ _
  case di => intro s t h; cases h; exact disableInts s
  case ldSpHl => intro s t h; cases h; exact loadSpHl s
  case ei => intro s t h; cases h; exact enableInts s

end Sys2Proof.Machine
end

