-- ==== Sys2Proof/Laws/Invariant.lean ====
section
/-!
SUPPORT. The pieces of the step and the invariants of Sys2Proof/Safety.lean: what a register write, a write through the router, a PPU
tick and a timer update keep.
-/

namespace Sys2Proof.Machine

/-! ### Registers -/

/-- The invariants read F, and of the CPU nothing else. -/
theorem State.RegWf.withCpu {s : State} (h : s.RegWf) (c : Cpu) (hf : c.f = s.cpu.f ∨ c.f &&& 0x0F = 0) :
    State.RegWf { s with cpu := c } := by
  refine ⟨?_, h.ly, h.dot, h.romBank, h.iflag, h.stat, h.bcps, h.divCounter, h.timaCounter⟩
  rcases hf with hf | hf
  · show c.f &&& 0x0F = 0
    rw [hf]; exact h.flags
  · exact hf

theorem withBit_high (v : Byte) (i : Nat) (h : v &&& 0xE0 = 0xE0) : withBit v i &&& 0xE0 = 0xE0 := by
  unfold withBit
  generalize 1#8 <<< i = k
  have d (m : Byte) : (v ||| k) &&& m = v &&& m ||| k &&& m := by ext i; simp [Bool.and_or_distrib_right]
  rw [d, h]
  ext i hi
  simp only [BitVec.getElem_or, BitVec.getElem_and]
  cases k[i] <;> simp

theorem withoutBit_high (v : Byte) (i : Nat) (hi : i < 5) (h : v &&& 0xE0 = 0xE0) : withoutBit v i &&& 0xE0 = 0xE0 := by
  have key : ∀ (j : Fin 5) (v : Byte), v &&& 0xE0 = 0xE0 → withoutBit v j &&& 0xE0 = 0xE0 := by decide
  exact key ⟨i, hi⟩ v h

theorem or_low_high (v k : Byte) (h : v &&& 0xE0 = 0xE0) : (v ||| k) &&& 0xE0 = 0xE0 := by
  have d (m : Byte) : (v ||| k) &&& m = v &&& m ||| k &&& m := by ext i; simp [Bool.and_or_distrib_right]
  rw [d, h]
  ext i hi
  simp only [BitVec.getElem_or, BitVec.getElem_and]
  cases k[i] <;> simp

theorem lowestBit_lt (v : Byte) : lowestBit v < 5 := by unfold lowestBit; (repeat' split) <;> omega

/-! ### Writes below 0x8000 -/

/-- A selected ROM bank is never 0 (20_memory.md R116). -/
theorem State.selectRomBank_ne (s : State) (a : Word) (v : Byte) (k : Bool) (b : BitVec 9) :
    (s.selectRomBank a v k b).cart.romBank ≠ 0 := by
  obtain ⟨d, h⟩ := s.selectRomBank_eq a v k b
  rw [h]
  show (if b = 0 then (1 : BitVec 9) else b) ≠ 0
  split
  · decide
  · assumption

/-- A write below 0x8000 never leaves bank 0 selected. -/
theorem State.controllerWrite_romBank (s : State) (a : Word) (v : Byte) (h : s.cart.romBank ≠ 0) :
    (s.controllerWrite a v).cart.romBank ≠ 0 := by
  have sel := fun k b => s.selectRomBank_ne a v k b
  unfold State.controllerWrite
  split
  · exact h
  · unfold State.mbc1Write
    simp only
    split_ifs <;> first | exact h | exact sel _ _
  · unfold State.mbc2Write
    simp only
    split_ifs <;> first | exact h | exact sel _ _
  · unfold State.mbc3Write
    simp only
    split_ifs
    · exact h
    · exact sel _ _
    · exact h
    · split <;> exact h
    · exact h
  · unfold State.mbc5Write
    simp only
    split_ifs <;> first | exact h | exact sel _ _

theorem extWrite_eq (c : Cart) (a : Nat) (v : Byte) :
    extWrite c a v = { c with rtc := (extWrite c a v).rtc, extRam := (extWrite c a v).extRam } := by
  unfold extWrite
  (repeat' split) <;> rfl

/-- Every write through the router keeps the register invariants of 10_state.md R54. -/
theorem State.memWrite_regWf {s : State} (a : Word) (v : Byte) (h : s.RegWf) : (s.memWrite a v).RegWf := by
  obtain ⟨hF, hly, hdot, hrb, hif, hst, hbc, hdiv, htima⟩ := h
  have hc : (s.controllerWrite a v).RegWf := by
    have hrb' := s.controllerWrite_romBank a v hrb
    obtain ⟨c, d, e, -⟩ := s.controllerWrite_eq a v
    rw [e] at hrb' ⊢
    exact ⟨hF, hly, hdot, hrb', hif, hst, hbc, hdiv, htima⟩
  have hkeep : s.RegWf := ⟨hF, hly, hdot, hrb, hif, hst, hbc, hdiv, htima⟩
  unfold State.memWrite
  split
  case h_1 => exact hc
  case h_2 => exact hc
  case h_3 => exact hc
  case h_4 =>
    unfold State.setVram
    split <;> exact ⟨hF, hly, hdot, hrb, hif, hst, hbc, hdiv, htima⟩
  case h_5 => rw [extWrite_eq]; exact ⟨hF, hly, hdot, hrb, hif, hst, hbc, hdiv, htima⟩
  case h_9 => exact ⟨hF, hly, hdot, hrb, hif, hst, hbc, by show (0 : Nat) < 256; omega, htima⟩
  case h_13 =>
    have key : ∀ w : Byte, (w &&& 0x1F ||| 0xE0) &&& 0xE0 = 0xE0 := by decide
    exact ⟨hF, hly, hdot, hrb, key v, hst, hbc, hdiv, htima⟩
  case h_15 =>
    have key (w x : Byte) : bitOf (0x80 ||| w ||| x) 7 = true := by
      simp [bitOf]
    exact ⟨hF, hly, hdot, hrb, hif, key _ _, hbc, hdiv, htima⟩
  case h_20 =>
    obtain ⟨m, e⟩ := s.dmaWrite_eq v
    rw [e]
    exact ⟨hF, hly, hdot, hrb, hif, hst, hbc, hdiv, htima⟩
  case h_27 =>
    have key : ∀ w : Byte, bitOf (w &&& 0xBF) 6 = false := by decide
    exact ⟨hF, hly, hdot, hrb, hif, hst, key v, hdiv, htima⟩
  case h_28 =>
    have key (b : Byte) (hb : bitOf b 6 = false) :
        bitOf (if bitOf b 7 then (b &&& 0x80) ||| ((b + 1) &&& 0x3F) else b) 6 = false := by
      split
      · simp [bitOf]
      · exact hb
    exact ⟨hF, hly, hdot, hrb, hif, hst, key _ hbc, hdiv, htima⟩
  all_goals first
    | exact hkeep
    | exact ⟨hF, hly, hdot, hrb, hif, hst, hbc, hdiv, htima⟩

/-! ### The controller's registers -/

/-- The controller's invariant reads neither the clock registers nor external RAM. -/
theorem Cart.Inv.congr {c d : Cart} (h : c.Inv) (hd : d = { c with rtc := d.rtc, extRam := d.extRam }) : d.Inv := by
  rw [hd]
  exact h

/-! ### The PPU and the timer -/

/-- The mode bits are the low two bits of STAT. -/
theorem setMode_stat (v : Byte) (m : Nat) (h : bitOf v 7 = true) : bitOf ((v &&& 0xFC) ||| BitVec.ofNat 8 (m % 4)) 7 = true := by
  have h' : v.getLsbD 7 = true := h
  simp [bitOf, h']

theorem State.requestIrq_regWf {s : State} (i : Nat) (h : s.RegWf) : (s.requestIrq i).RegWf :=
  ⟨h.flags, h.ly, h.dot, h.romBank, withBit_high _ _ h.iflag, h.stat, h.bcps, h.divCounter, h.timaCounter⟩

theorem State.lcdIrqIf_regWf {s : State} (b : Nat) (h : s.RegWf) : (s.lcdIrqIf b).RegWf := by
  unfold State.lcdIrqIf
  split
  · exact State.requestIrq_regWf 1 h
  · exact h

theorem State.setMode_regWf {s : State} (m : Nat) (h : s.RegWf) : (s.setMode m).RegWf :=
  ⟨h.flags, h.ly, h.dot, h.romBank, h.iflag, setMode_stat _ _ h.stat, h.bcps, h.divCounter, h.timaCounter⟩

theorem State.renderLine_regWf {s : State} (y : Nat) (h : s.RegWf) : (s.renderLine y).RegWf :=
  ⟨h.flags, h.ly, h.dot, h.romBank, h.iflag, h.stat, h.bcps, h.divCounter, h.timaCounter⟩

theorem State.nextLine_regWf {s : State} (h : s.RegWf) : s.nextLine.RegWf := by
  have hly : (BitVec.ofNat 8 ((s.ppu.ly.toNat + 1) % 154)).toNat < 154 := by
    rw [BitVec.toNat_ofNat]; omega
  have on : bitOf (withBit s.ppu.stat 2) 7 = true := by rw [bitOf_withBit _ _ _ (by omega), h.stat]; rfl
  have off : bitOf (withoutBit s.ppu.stat 2) 7 = true := by rw [bitOf_withoutBit _ _ _ (by omega), h.stat]; rfl
  unfold State.nextLine
  simp only
  split
  · exact State.lcdIrqIf_regWf _
      ⟨h.flags, hly, by show (0 : Nat) < 456; omega, h.romBank, h.iflag, on, h.bcps, h.divCounter, h.timaCounter⟩
  · exact ⟨h.flags, hly, by show (0 : Nat) < 456; omega, h.romBank, h.iflag, off, h.bcps, h.divCounter, h.timaCounter⟩

theorem State.enterMode_regWf {s : State} (m : Nat) (h : s.RegWf) : (s.enterMode m).RegWf := by
  unfold State.enterMode
  simp only
  split
  · exact State.lcdIrqIf_regWf _ (State.renderLine_regWf _ (State.setMode_regWf _ h))
  · exact State.lcdIrqIf_regWf _ (State.requestIrq_regWf _ (State.setMode_regWf _ h))
  · exact State.lcdIrqIf_regWf _ (State.setMode_regWf _ h)
  · exact State.setMode_regWf _ h

/-- A PPU tick keeps the register invariants. -/
theorem State.ppuTick_regWf {s : State} (h : s.RegWf) : s.ppuTick.RegWf := by
  have hd := h.dot
  have key (t : State) (ht : t.RegWf) :
      (if ppuMode t.ppu.ly.toNat t.ppu.dot ≠ t.ppu.mode then t.enterMode (ppuMode t.ppu.ly.toNat t.ppu.dot) else t).RegWf := by
    split
    · exact State.enterMode_regWf _ ht
    · exact ht
  unfold State.ppuTick
  simp only
  split
  · have hn : State.RegWf ({ s with ppu := { s.ppu with dot := 0 } } : State) :=
      ⟨h.flags, h.ly, by show (0 : Nat) < 456; omega, h.romBank, h.iflag, h.stat, h.bcps, h.divCounter, h.timaCounter⟩
    exact key _ (State.nextLine_regWf (s := { s with ppu := { s.ppu with dot := 0 } }) hn)
  · rename_i hne
    have hne' : ¬ s.ppu.dot + 1 = 456 := hne
    exact key _ ⟨h.flags, h.ly, by show s.ppu.dot + 1 < 456; omega, h.romBank, h.iflag, h.stat, h.bcps, h.divCounter, h.timaCounter⟩

theorem State.ppuUpdate_regWf {s : State} (c : Nat) (h : s.RegWf) : (s.ppuUpdate c).RegWf := by
  have ticks (c : Nat) (s : State) (h : s.RegWf) : (State.ppuTicks c s).RegWf := by
    induction c generalizing s with
    | zero => exact h
    | succ c ih => exact ih _ (State.ppuTick_regWf h)
  unfold State.ppuUpdate
  split
  · exact ⟨h.flags, by show (0 : Nat) < 154; omega, by show (0 : Nat) < 456; omega, h.romBank, h.iflag, setMode_stat _ _ h.stat,
      h.bcps, h.divCounter, h.timaCounter⟩
  · exact ticks c s h

theorem State.timerUpdate_regWf {s : State} (c : Nat) (h : s.RegWf) : (s.timerUpdate c).RegWf := by
  have adv := TimerAdvance.timerUpdate s c
  have hdiv : (s.timerUpdate c).timer.divCounter < 256 := by
    have hlt : (s.dividerUpdate c).timer.divCounter < 256 := Nat.mod_lt _ (by omega)
    unfold State.timerUpdate State.timaUpdate
    split
    · simp only
      rw [(State.timaTicks_counters _ _).2]
      exact hlt
    · exact hlt
  have htima : (s.timerUpdate c).timer.timaCounter < 1024 := by
    unfold State.timerUpdate State.timaUpdate
    split
    · simp only
      rw [(State.timaTicks_counters _ _).1]
      have hb := timaThreshold_bounds (s.dividerUpdate c).timer.tac
      exact Nat.lt_of_lt_of_le (Nat.mod_lt _ (by omega)) hb.2
    · exact h.timaCounter
  have hif : (s.timerUpdate c).iflag &&& 0xE0 = 0xE0 := by
    rcases adv.iflag with e | e
    · rw [e]; exact h.iflag
    · rw [e]; exact withBit_high _ _ h.iflag
  rw [adv.rest]
  exact ⟨h.flags, h.ly, h.dot, h.romBank, hif, h.stat, h.bcps, hdiv, htima⟩

/-! ### Memories under the PPU's advance -/

theorem State.renderLine_memWf {s : State} {y : Nat} (h : s.MemWf) (hy : y < 144) : (s.renderLine y).MemWf :=
  ⟨h.mem, h.vram0, h.vram1, h.oam, h.bgPal, h.extRam, rowsWf_putRow h.fb hy (renderRow_length _ _ _)⟩

theorem State.lcdIrqIf_memWf {s : State} (b : Nat) (h : s.MemWf) : (s.lcdIrqIf b).MemWf := by
  unfold State.lcdIrqIf
  split
  · exact ⟨h.mem, h.vram0, h.vram1, h.oam, h.bgPal, h.extRam, h.fb⟩
  · exact h

theorem State.ppuTick_memWf {s : State} (h : s.MemWf) : s.ppuTick.MemWf := by
  have enter (t : State) (ht : t.MemWf) :
      (if ppuMode t.ppu.ly.toNat t.ppu.dot ≠ t.ppu.mode then t.enterMode (ppuMode t.ppu.ly.toNat t.ppu.dot) else t).MemWf := by
    split
    · have hm : ppuMode t.ppu.ly.toNat t.ppu.dot = 0 → t.ppu.ly.toNat < 144 := by
        unfold ppuMode
        (repeat' split) <;> intro h <;> omega
      have hset : (t.setMode (ppuMode t.ppu.ly.toNat t.ppu.dot)).MemWf :=
        ⟨ht.mem, ht.vram0, ht.vram1, ht.oam, ht.bgPal, ht.extRam, ht.fb⟩
      unfold State.enterMode
      simp only
      split
      · rename_i e
        exact State.lcdIrqIf_memWf _ (State.renderLine_memWf hset (hm e))
      · exact State.lcdIrqIf_memWf _ ⟨hset.mem, hset.vram0, hset.vram1, hset.oam, hset.bgPal, hset.extRam, hset.fb⟩
      · exact State.lcdIrqIf_memWf _ hset
      · exact hset
    · exact ht
  have line (t : State) (ht : t.MemWf) : t.nextLine.MemWf := by
    unfold State.nextLine
    simp only
    split
    · exact State.lcdIrqIf_memWf _ ⟨ht.mem, ht.vram0, ht.vram1, ht.oam, ht.bgPal, ht.extRam, ht.fb⟩
    · exact ⟨ht.mem, ht.vram0, ht.vram1, ht.oam, ht.bgPal, ht.extRam, ht.fb⟩
  have h0 : State.MemWf { s with ppu := { s.ppu with dot := s.ppu.dot + 1 } } :=
    ⟨h.mem, h.vram0, h.vram1, h.oam, h.bgPal, h.extRam, h.fb⟩
  unfold State.ppuTick
  simp only
  split
  · exact enter _ (line _ h0)
  · exact enter _ h0

theorem State.ppuUpdate_memWf {s : State} (c : Nat) (h : s.MemWf) : (s.ppuUpdate c).MemWf := by
  have ticks (c : Nat) (s : State) (h : s.MemWf) : (State.ppuTicks c s).MemWf := by
    induction c generalizing s with
    | zero => exact h
    | succ c ih => exact ih _ (State.ppuTick_memWf h)
  unfold State.ppuUpdate
  split
  · exact ⟨h.mem, h.vram0, h.vram1, h.oam, h.bgPal, h.extRam, h.fb⟩
  · exact ticks c s h

theorem State.timerUpdate_memWf {s : State} (c : Nat) (h : s.MemWf) : (s.timerUpdate c).MemWf := by
  rw [(TimerAdvance.timerUpdate s c).rest]
  exact ⟨h.mem, h.vram0, h.vram1, h.oam, h.bgPal, h.extRam, h.fb⟩

end Sys2Proof.Machine
end

