-- ==== Sys2Proof/Laws/Step.lean ====
section
/-!
SUPPORT. The step by its parts (70_reset_and_hazards.md R505): what the devices' advance leaves alone, what a step can be, and runs of
several steps.
-/

namespace Sys2Proof.Machine

/-! ### What the PPU's and the timer's advance leave alone -/

@[simp] theorem State.ppuUpdate_par (s : State) (c : Nat) : (s.ppuUpdate c).par = s.par := by rw [(PpuAdvance.ppuUpdate s c).rest]
@[simp] theorem State.ppuUpdate_cpu (s : State) (c : Nat) : (s.ppuUpdate c).cpu = s.cpu := by rw [(PpuAdvance.ppuUpdate s c).rest]
@[simp] theorem State.ppuUpdate_cart (s : State) (c : Nat) : (s.ppuUpdate c).cart = s.cart := by
  rw [(PpuAdvance.ppuUpdate s c).rest]
@[simp] theorem State.ppuUpdate_timer (s : State) (c : Nat) : (s.ppuUpdate c).timer = s.timer := by
  rw [(PpuAdvance.ppuUpdate s c).rest]
@[simp] theorem State.ppuUpdate_joy (s : State) (c : Nat) : (s.ppuUpdate c).joy = s.joy := by rw [(PpuAdvance.ppuUpdate s c).rest]
@[simp] theorem State.ppuUpdate_mem (s : State) (c : Nat) : (s.ppuUpdate c).mem = s.mem := by rw [(PpuAdvance.ppuUpdate s c).rest]
@[simp] theorem State.ppuUpdate_booting (s : State) (c : Nat) : (s.ppuUpdate c).booting = s.booting := by
  rw [(PpuAdvance.ppuUpdate s c).rest]
@[simp] theorem State.ppuUpdate_ie (s : State) (c : Nat) : (s.ppuUpdate c).ie = s.ie := by rw [(PpuAdvance.ppuUpdate s c).rest]
@[simp] theorem State.ppuUpdate_stepCycles (s : State) (c : Nat) : (s.ppuUpdate c).stepCycles = s.stepCycles := by
  rw [(PpuAdvance.ppuUpdate s c).rest]
@[simp] theorem State.ppuUpdate_totalCycles (s : State) (c : Nat) : (s.ppuUpdate c).totalCycles = s.totalCycles := by
  rw [(PpuAdvance.ppuUpdate s c).rest]
@[simp] theorem State.ppuUpdate_diag (s : State) (c : Nat) : (s.ppuUpdate c).diag = s.diag := by
  rw [(PpuAdvance.ppuUpdate s c).rest]

/-- The PPU's advance leaves its memories alone. -/
theorem State.ppuUpdate_memories (s : State) (c : Nat) :
    (s.ppuUpdate c).ppu.vram0 = s.ppu.vram0 ∧ (s.ppuUpdate c).ppu.vram1 = s.ppu.vram1 ∧ (s.ppuUpdate c).ppu.oam = s.ppu.oam ∧
      (s.ppuUpdate c).ppu.bgPal = s.ppu.bgPal := by
  rw [(PpuAdvance.ppuUpdate s c).rest]
  exact ⟨rfl, rfl, rfl, rfl⟩

@[simp] theorem State.timerUpdate_par (s : State) (c : Nat) : (s.timerUpdate c).par = s.par := by
  rw [(TimerAdvance.timerUpdate s c).rest]
@[simp] theorem State.timerUpdate_cpu (s : State) (c : Nat) : (s.timerUpdate c).cpu = s.cpu := by
  rw [(TimerAdvance.timerUpdate s c).rest]
@[simp] theorem State.timerUpdate_cart (s : State) (c : Nat) : (s.timerUpdate c).cart = s.cart := by
  rw [(TimerAdvance.timerUpdate s c).rest]
@[simp] theorem State.timerUpdate_ppu (s : State) (c : Nat) : (s.timerUpdate c).ppu = s.ppu := by
  rw [(TimerAdvance.timerUpdate s c).rest]
@[simp] theorem State.timerUpdate_joy (s : State) (c : Nat) : (s.timerUpdate c).joy = s.joy := by
  rw [(TimerAdvance.timerUpdate s c).rest]
@[simp] theorem State.timerUpdate_mem (s : State) (c : Nat) : (s.timerUpdate c).mem = s.mem := by
  rw [(TimerAdvance.timerUpdate s c).rest]
@[simp] theorem State.timerUpdate_booting (s : State) (c : Nat) : (s.timerUpdate c).booting = s.booting := by
  rw [(TimerAdvance.timerUpdate s c).rest]
@[simp] theorem State.timerUpdate_ie (s : State) (c : Nat) : (s.timerUpdate c).ie = s.ie := by
  rw [(TimerAdvance.timerUpdate s c).rest]
@[simp] theorem State.timerUpdate_stepCycles (s : State) (c : Nat) : (s.timerUpdate c).stepCycles = s.stepCycles := by
  rw [(TimerAdvance.timerUpdate s c).rest]
@[simp] theorem State.timerUpdate_totalCycles (s : State) (c : Nat) : (s.timerUpdate c).totalCycles = s.totalCycles := by
  rw [(TimerAdvance.timerUpdate s c).rest]
@[simp] theorem State.timerUpdate_diag (s : State) (c : Nat) : (s.timerUpdate c).diag = s.diag := by
  rw [(TimerAdvance.timerUpdate s c).rest]

/-! ### The step -/

/-- A suspended CPU's step is the idle step and the system step's rest (60_exceptions.md R401). -/
theorem step_of_suspended {s : State} (h : s.beginStep.suspended = true) : step s = .next s.beginStep.idle.finishStep := by
  unfold step
  simp only [h, if_true]

/-- A step of a CPU that is not suspended, by what it fetched (60_exceptions.md R400). -/
theorem step_of_fetch {s u : State} {i : Instr} (h : s.beginStep.suspended = false) (hf : s.beginStep.fetch = .ok (i, u)) :
    step s = match exec i u with
      | .next t => .next t.finishStep
      | .fault r => .fault r
      | .refused r => .refused r := by
  unfold step
  simp only [h, hf]
  rfl

/-- Everything a step that answers can be: the idle step, or an instruction fetched, executed and followed by the system step's
rest (70_reset_and_hazards.md R505). -/
theorem step_cases {s t : State} (h : step s = .next t) :
    (s.beginStep.suspended = true ∧ t = s.beginStep.idle.finishStep) ∨
    (s.beginStep.suspended = false ∧
      ∃ i u v, s.beginStep.fetch = .ok (i, u) ∧ exec i u = .next v ∧ t = v.finishStep) := by
  by_cases hs : s.beginStep.suspended = true
  · rw [step_of_suspended hs] at h
    cases h
    exact .inl ⟨hs, rfl⟩
  · rw [Bool.not_eq_true] at hs
    refine .inr ⟨hs, ?_⟩
    cases hf : s.beginStep.fetch with
    | error e =>
      unfold step at h
      simp [hs, hf] at h
    | ok p =>
      obtain ⟨i, u⟩ := p
      rw [step_of_fetch hs hf] at h
      cases he : exec i u with
      | next v =>
        rw [he] at h
        cases h
        exact ⟨i, u, v, rfl, he, rfl⟩
      | fault r => rw [he] at h; cases h
      | refused r => rw [he] at h; cases h

/-! ### Runs -/

/-- The first step of a run. -/
theorem run_succ_of_next (M : Host.Core) {s t : M.State} (n : Nat) (h : M.step s = .next t) : M.run (n + 1) s = M.run n t := by
  rw [Host.Core.run.eq_2, h]

theorem core_run_succ {s t : State} (n : Nat) (h : step s = .next t) :
    Host.Core.run Sys2Proof.core (n + 1) s = Host.Core.run Sys2Proof.core n t := run_succ_of_next Sys2Proof.core n h

end Sys2Proof.Machine
end

