-- ==== Sys2Proof/Tests/Slice0.lean ====
section
/-!
SUPPORT. Small checks of the model. The words are written out from the opcode maps of 30_encoding.md, the expected results are the
rows of 95_test_vectors.md (its section stands in each comment), and every statement of Obligations.lean that has hypotheses has a
named witness here, clause by clause, at the boundary values of its ranges.
-/

namespace Sys2Proof.Tests

open Sys2Proof Sys2Proof.Machine Sys2Proof.Claims

-- One theorem at a time: a kernel evaluation of each at once needs too many threads.
set_option Elab.async false

/-! ### Helpers -/

/-- Bytes listed from an address on. -/
def cells : Nat → List Byte → Mem
  | _, [] => []
  | a, b :: bs => (a, b) :: cells (a + 1) bs

/-- The conventions of 95_test_vectors.md: the reset state with the code at 0xC000, PC there. -/
def start (code : List Byte) : State :=
  { State.reset with cpu := { State.reset.cpu with pc := 0xC000 }, mem := cells 0xC000 code }

/-- The same with data at 0xD000 and above, which no code overlaps. -/
def startData (code data : List Byte) : State := { start code with mem := cells 0xC000 code ++ cells 0xD000 data }

/-- The state with other CPU registers. -/
def withCpu (s : State) (f : Cpu → Cpu) : State := { s with cpu := f s.cpu }

/-- The CPU with A and F given, the pair most vectors start from. -/
def withAf (a f : Byte) (c : Cpu) : Cpu := { c with a := a, f := f }

/-- The next state of one step, seen through f. -/
def after {α : Type} (s : State) (f : State → α) : Option α :=
  match step s with
  | .next t => some (f t)
  | .fault _ => none
  | .refused _ => none

/-- A and F and the cycles of the step. -/
def afc (t : State) : Byte × Byte × Nat := (t.cpu.a, t.cpu.f, t.stepCycles)

/-- PC, SP and the cycles of the step. -/
def psc (t : State) : Word × Word × Nat := (t.cpu.pc, t.cpu.sp, t.stepCycles)

/-- A state after writes made in order. -/
def writes (s : State) : List (Word × Byte) → State
  | [] => s
  | (a, v) :: ws => writes (s.memWrite a v) ws

/-- The reset state of a cartridge of the given size with these bytes listed. -/
def withCart (size : Nat) (bytes : Mem) : State := State.resetWith {} ⟨size, bytes⟩

/-! ### Well-formedness: the one term it refuses -/

theorem test_wf_refuses_the_bare_prefix : (Instr.prefixCb 0x37).wf = false := by decide

theorem test_wf_admits_the_others : Instr.nop.wf = true ∧ (Instr.stop 0xFF).wf = true ∧ Instr.swapA.wf = true := by decide

/-! ### Decoding: every byte of the two maps (30_encoding.md R160, R161), d8 = 0x42 and d16 = 0x1234 little-endian -/

/-- What the decoder reads from each sequence of bytes. -/
def decodeAll (l : List (List Byte)) : List (Except DecodeError (Instr × List Byte)) := l.map decode

/-- Each instruction, with no byte left over. -/
def decoded (l : List Instr) : List (Except DecodeError (Instr × List Byte)) := l.map fun i => .ok (i, [])

/-- The prefix 0xCB stands in no base row below: it selects the CB map (45_misc.md R331). -/
theorem test_prefix_selects_the_cb_map : decode [0xCB, 0x11, 0xCB] = .ok (.rlC, [0xCB]) := by decide

theorem test_missing_bytes_are_rejected_by_name :
    decode [] = .error .noOpcode ∧ decode [0xCB] = .error (.missingOperand 0xCB) ∧
      decode [0xC3, 0x50] = .error (.missingOperand 0xC3) := by decide

theorem test_decode_base_row_0 :
    decodeAll
      [[0x00], [0x01, 0x34, 0x12], [0x02], [0x03], [0x04], [0x05], [0x06, 0x42], [0x07], [0x08, 0x34, 0x12], [0x09], [0x0A],
       [0x0B], [0x0C], [0x0D], [0x0E, 0x42], [0x0F]] =
      decoded [.nop, .ldBcD16 0x1234, .ldIndBcA, .incBc, .incB, .decB, .ldBD8 0x42, .rlca, .ldIndA16Sp 0x1234, .addHlBc,
               .ldAIndBc, .decBc, .incC, .decC, .ldCD8 0x42, .rrca] := by decide +kernel

theorem test_decode_base_row_1 :
    decodeAll
      [[0x10, 0x42], [0x11, 0x34, 0x12], [0x12], [0x13], [0x14], [0x15], [0x16, 0x42], [0x17], [0x18, 0x42], [0x19], [0x1A],
       [0x1B], [0x1C], [0x1D], [0x1E, 0x42], [0x1F]] =
      decoded [.stop 0x42, .ldDeD16 0x1234, .ldIndDeA, .incDe, .incD, .decD, .ldDD8 0x42, .rla, .jrE8 0x42, .addHlDe,
               .ldAIndDe, .decDe, .incE, .decE, .ldED8 0x42, .rra] := by decide +kernel

theorem test_decode_base_row_2 :
    decodeAll
      [[0x20, 0x42], [0x21, 0x34, 0x12], [0x22], [0x23], [0x24], [0x25], [0x26, 0x42], [0x27], [0x28, 0x42], [0x29], [0x2A],
       [0x2B], [0x2C], [0x2D], [0x2E, 0x42], [0x2F]] =
      decoded [.jrNzE8 0x42, .ldHlD16 0x1234, .ldIndHliA, .incHl, .incH, .decH, .ldHD8 0x42, .daa, .jrZE8 0x42, .addHlHl,
               .ldAIndHli, .decHl, .incL, .decL, .ldLD8 0x42, .cpl] := by decide +kernel

theorem test_decode_base_row_3 :
    decodeAll
      [[0x30, 0x42], [0x31, 0x34, 0x12], [0x32], [0x33], [0x34], [0x35], [0x36, 0x42], [0x37], [0x38, 0x42], [0x39], [0x3A],
       [0x3B], [0x3C], [0x3D], [0x3E, 0x42], [0x3F]] =
      decoded [.jrNcE8 0x42, .ldSpD16 0x1234, .ldIndHldA, .incSp, .incIndHl, .decIndHl, .ldIndHlD8 0x42, .scf, .jrCE8 0x42,
               .addHlSp, .ldAIndHld, .decSp, .incA, .decA, .ldAD8 0x42, .ccf] := by decide +kernel

theorem test_decode_base_row_4 :
    decodeAll
      [[0x40], [0x41], [0x42], [0x43], [0x44], [0x45], [0x46], [0x47], [0x48], [0x49], [0x4A], [0x4B], [0x4C], [0x4D], [0x4E],
       [0x4F]] =
      decoded [.ldBB, .ldBC, .ldBD, .ldBE, .ldBH, .ldBL, .ldBIndHl, .ldBA, .ldCB, .ldCC, .ldCD, .ldCE, .ldCH, .ldCL, .ldCIndHl,
               .ldCA] := by decide +kernel

theorem test_decode_base_row_5 :
    decodeAll
      [[0x50], [0x51], [0x52], [0x53], [0x54], [0x55], [0x56], [0x57], [0x58], [0x59], [0x5A], [0x5B], [0x5C], [0x5D], [0x5E],
       [0x5F]] =
      decoded [.ldDB, .ldDC, .ldDD, .ldDE, .ldDH, .ldDL, .ldDIndHl, .ldDA, .ldEB, .ldEC, .ldED, .ldEE, .ldEH, .ldEL, .ldEIndHl,
               .ldEA] := by decide +kernel

theorem test_decode_base_row_6 :
    decodeAll
      [[0x60], [0x61], [0x62], [0x63], [0x64], [0x65], [0x66], [0x67], [0x68], [0x69], [0x6A], [0x6B], [0x6C], [0x6D], [0x6E],
       [0x6F]] =
      decoded [.ldHB, .ldHC, .ldHD, .ldHE, .ldHH, .ldHL, .ldHIndHl, .ldHA, .ldLB, .ldLC, .ldLD, .ldLE, .ldLH, .ldLL, .ldLIndHl,
               .ldLA] := by decide +kernel

theorem test_decode_base_row_7 :
    decodeAll
      [[0x70], [0x71], [0x72], [0x73], [0x74], [0x75], [0x76], [0x77], [0x78], [0x79], [0x7A], [0x7B], [0x7C], [0x7D], [0x7E],
       [0x7F]] =
      decoded [.ldIndHlB, .ldIndHlC, .ldIndHlD, .ldIndHlE, .ldIndHlH, .ldIndHlL, .halt, .ldIndHlA, .ldAB, .ldAC, .ldAD, .ldAE,
               .ldAH, .ldAL, .ldAIndHl, .ldAA] := by decide +kernel

theorem test_decode_base_row_8 :
    decodeAll
      [[0x80], [0x81], [0x82], [0x83], [0x84], [0x85], [0x86], [0x87], [0x88], [0x89], [0x8A], [0x8B], [0x8C], [0x8D], [0x8E],
       [0x8F]] =
      decoded [.addAB, .addAC, .addAD, .addAE, .addAH, .addAL, .addAIndHl, .addAA, .adcAB, .adcAC, .adcAD, .adcAE, .adcAH,
               .adcAL, .adcAIndHl, .adcAA] := by decide +kernel

theorem test_decode_base_row_9 :
    decodeAll
      [[0x90], [0x91], [0x92], [0x93], [0x94], [0x95], [0x96], [0x97], [0x98], [0x99], [0x9A], [0x9B], [0x9C], [0x9D], [0x9E],
       [0x9F]] =
      decoded [.subAB, .subAC, .subAD, .subAE, .subAH, .subAL, .subAIndHl, .subAA, .sbcAB, .sbcAC, .sbcAD, .sbcAE, .sbcAH,
               .sbcAL, .sbcAIndHl, .sbcAA] := by decide +kernel

theorem test_decode_base_row_A :
    decodeAll
      [[0xA0], [0xA1], [0xA2], [0xA3], [0xA4], [0xA5], [0xA6], [0xA7], [0xA8], [0xA9], [0xAA], [0xAB], [0xAC], [0xAD], [0xAE],
       [0xAF]] =
      decoded [.andAB, .andAC, .andAD, .andAE, .andAH, .andAL, .andAIndHl, .andAA, .xorAB, .xorAC, .xorAD, .xorAE, .xorAH,
               .xorAL, .xorAIndHl, .xorAA] := by decide +kernel

theorem test_decode_base_row_B :
    decodeAll
      [[0xB0], [0xB1], [0xB2], [0xB3], [0xB4], [0xB5], [0xB6], [0xB7], [0xB8], [0xB9], [0xBA], [0xBB], [0xBC], [0xBD], [0xBE],
       [0xBF]] =
      decoded [.orAB, .orAC, .orAD, .orAE, .orAH, .orAL, .orAIndHl, .orAA, .cpAB, .cpAC, .cpAD, .cpAE, .cpAH, .cpAL, .cpAIndHl,
               .cpAA] := by decide +kernel

theorem test_decode_base_row_C :
    decodeAll
      [[0xC0], [0xC1], [0xC2, 0x34, 0x12], [0xC3, 0x34, 0x12], [0xC4, 0x34, 0x12], [0xC5], [0xC6, 0x42], [0xC7], [0xC8],
       [0xC9], [0xCA, 0x34, 0x12], [0xCC, 0x34, 0x12], [0xCD, 0x34, 0x12], [0xCE, 0x42], [0xCF]] =
      decoded [.retNz, .popBc, .jpNzA16 0x1234, .jpA16 0x1234, .callNzA16 0x1234, .pushBc, .addAD8 0x42, .rst00, .retZ, .ret,
               .jpZA16 0x1234, .callZA16 0x1234, .callA16 0x1234, .adcAD8 0x42, .rst08] := by decide +kernel

theorem test_decode_base_row_D :
    decodeAll
      [[0xD0], [0xD1], [0xD2, 0x34, 0x12], [0xD3], [0xD4, 0x34, 0x12], [0xD5], [0xD6, 0x42], [0xD7], [0xD8], [0xD9],
       [0xDA, 0x34, 0x12], [0xDB], [0xDC, 0x34, 0x12], [0xDD], [0xDE, 0x42], [0xDF]] =
      decoded [.retNc, .popDe, .jpNcA16 0x1234, .illegalD3, .callNcA16 0x1234, .pushDe, .subAD8 0x42, .rst10, .retC, .reti,
               .jpCA16 0x1234, .illegalDB, .callCA16 0x1234, .illegalDD, .sbcAD8 0x42, .rst18] := by decide +kernel

theorem test_decode_base_row_E :
    decodeAll
      [[0xE0, 0x42], [0xE1], [0xE2], [0xE3], [0xE4], [0xE5], [0xE6, 0x42], [0xE7], [0xE8, 0x42], [0xE9], [0xEA, 0x34, 0x12],
       [0xEB], [0xEC], [0xED], [0xEE, 0x42], [0xEF]] =
      decoded [.ldhIndA8A 0x42, .popHl, .ldIndCA, .illegalE3, .illegalE4, .pushHl, .andAD8 0x42, .rst20, .addSpE8 0x42, .jpHl,
               .ldIndA16A 0x1234, .illegalEB, .illegalEC, .illegalED, .xorAD8 0x42, .rst28] := by decide +kernel

theorem test_decode_base_row_F :
    decodeAll
      [[0xF0, 0x42], [0xF1], [0xF2], [0xF3], [0xF4], [0xF5], [0xF6, 0x42], [0xF7], [0xF8, 0x42], [0xF9], [0xFA, 0x34, 0x12],
       [0xFB], [0xFC], [0xFD], [0xFE, 0x42], [0xFF]] =
      decoded [.ldhAIndA8 0x42, .popAf, .ldAIndC, .di, .illegalF4, .pushAf, .orAD8 0x42, .rst30, .ldHlSpE8 0x42, .ldSpHl,
               .ldAIndA16 0x1234, .ei, .illegalFC, .illegalFD, .cpAD8 0x42, .rst38] := by decide +kernel

theorem test_decode_cb_row_0 :
    decodeAll
      [[0xCB, 0x00], [0xCB, 0x01], [0xCB, 0x02], [0xCB, 0x03], [0xCB, 0x04], [0xCB, 0x05], [0xCB, 0x06], [0xCB, 0x07],
       [0xCB, 0x08], [0xCB, 0x09], [0xCB, 0x0A], [0xCB, 0x0B], [0xCB, 0x0C], [0xCB, 0x0D], [0xCB, 0x0E], [0xCB, 0x0F]] =
      decoded [.rlcB, .rlcC, .rlcD, .rlcE, .rlcH, .rlcL, .rlcIndHl, .rlcA, .rrcB, .rrcC, .rrcD, .rrcE, .rrcH, .rrcL, .rrcIndHl,
               .rrcA] := by decide +kernel

theorem test_decode_cb_row_1 :
    decodeAll
      [[0xCB, 0x10], [0xCB, 0x11], [0xCB, 0x12], [0xCB, 0x13], [0xCB, 0x14], [0xCB, 0x15], [0xCB, 0x16], [0xCB, 0x17],
       [0xCB, 0x18], [0xCB, 0x19], [0xCB, 0x1A], [0xCB, 0x1B], [0xCB, 0x1C], [0xCB, 0x1D], [0xCB, 0x1E], [0xCB, 0x1F]] =
      decoded [.rlB, .rlC, .rlD, .rlE, .rlH, .rlL, .rlIndHl, .rlA, .rrB, .rrC, .rrD, .rrE, .rrH, .rrL, .rrIndHl, .rrA] := by decide +kernel

theorem test_decode_cb_row_2 :
    decodeAll
      [[0xCB, 0x20], [0xCB, 0x21], [0xCB, 0x22], [0xCB, 0x23], [0xCB, 0x24], [0xCB, 0x25], [0xCB, 0x26], [0xCB, 0x27],
       [0xCB, 0x28], [0xCB, 0x29], [0xCB, 0x2A], [0xCB, 0x2B], [0xCB, 0x2C], [0xCB, 0x2D], [0xCB, 0x2E], [0xCB, 0x2F]] =
      decoded [.slaB, .slaC, .slaD, .slaE, .slaH, .slaL, .slaIndHl, .slaA, .sraB, .sraC, .sraD, .sraE, .sraH, .sraL, .sraIndHl,
               .sraA] := by decide +kernel

theorem test_decode_cb_row_3 :
    decodeAll
      [[0xCB, 0x30], [0xCB, 0x31], [0xCB, 0x32], [0xCB, 0x33], [0xCB, 0x34], [0xCB, 0x35], [0xCB, 0x36], [0xCB, 0x37],
       [0xCB, 0x38], [0xCB, 0x39], [0xCB, 0x3A], [0xCB, 0x3B], [0xCB, 0x3C], [0xCB, 0x3D], [0xCB, 0x3E], [0xCB, 0x3F]] =
      decoded [.swapB, .swapC, .swapD, .swapE, .swapH, .swapL, .swapIndHl, .swapA, .srlB, .srlC, .srlD, .srlE, .srlH, .srlL,
               .srlIndHl, .srlA] := by decide +kernel

theorem test_decode_cb_row_4 :
    decodeAll
      [[0xCB, 0x40], [0xCB, 0x41], [0xCB, 0x42], [0xCB, 0x43], [0xCB, 0x44], [0xCB, 0x45], [0xCB, 0x46], [0xCB, 0x47],
       [0xCB, 0x48], [0xCB, 0x49], [0xCB, 0x4A], [0xCB, 0x4B], [0xCB, 0x4C], [0xCB, 0x4D], [0xCB, 0x4E], [0xCB, 0x4F]] =
      decoded [.bit0B, .bit0C, .bit0D, .bit0E, .bit0H, .bit0L, .bit0IndHl, .bit0A, .bit1B, .bit1C, .bit1D, .bit1E, .bit1H,
               .bit1L, .bit1IndHl, .bit1A] := by decide +kernel

theorem test_decode_cb_row_5 :
    decodeAll
      [[0xCB, 0x50], [0xCB, 0x51], [0xCB, 0x52], [0xCB, 0x53], [0xCB, 0x54], [0xCB, 0x55], [0xCB, 0x56], [0xCB, 0x57],
       [0xCB, 0x58], [0xCB, 0x59], [0xCB, 0x5A], [0xCB, 0x5B], [0xCB, 0x5C], [0xCB, 0x5D], [0xCB, 0x5E], [0xCB, 0x5F]] =
      decoded [.bit2B, .bit2C, .bit2D, .bit2E, .bit2H, .bit2L, .bit2IndHl, .bit2A, .bit3B, .bit3C, .bit3D, .bit3E, .bit3H,
               .bit3L, .bit3IndHl, .bit3A] := by decide +kernel

theorem test_decode_cb_row_6 :
    decodeAll
      [[0xCB, 0x60], [0xCB, 0x61], [0xCB, 0x62], [0xCB, 0x63], [0xCB, 0x64], [0xCB, 0x65], [0xCB, 0x66], [0xCB, 0x67],
       [0xCB, 0x68], [0xCB, 0x69], [0xCB, 0x6A], [0xCB, 0x6B], [0xCB, 0x6C], [0xCB, 0x6D], [0xCB, 0x6E], [0xCB, 0x6F]] =
      decoded [.bit4B, .bit4C, .bit4D, .bit4E, .bit4H, .bit4L, .bit4IndHl, .bit4A, .bit5B, .bit5C, .bit5D, .bit5E, .bit5H,
               .bit5L, .bit5IndHl, .bit5A] := by decide +kernel

theorem test_decode_cb_row_7 :
    decodeAll
      [[0xCB, 0x70], [0xCB, 0x71], [0xCB, 0x72], [0xCB, 0x73], [0xCB, 0x74], [0xCB, 0x75], [0xCB, 0x76], [0xCB, 0x77],
       [0xCB, 0x78], [0xCB, 0x79], [0xCB, 0x7A], [0xCB, 0x7B], [0xCB, 0x7C], [0xCB, 0x7D], [0xCB, 0x7E], [0xCB, 0x7F]] =
      decoded [.bit6B, .bit6C, .bit6D, .bit6E, .bit6H, .bit6L, .bit6IndHl, .bit6A, .bit7B, .bit7C, .bit7D, .bit7E, .bit7H,
               .bit7L, .bit7IndHl, .bit7A] := by decide +kernel

theorem test_decode_cb_row_8 :
    decodeAll
      [[0xCB, 0x80], [0xCB, 0x81], [0xCB, 0x82], [0xCB, 0x83], [0xCB, 0x84], [0xCB, 0x85], [0xCB, 0x86], [0xCB, 0x87],
       [0xCB, 0x88], [0xCB, 0x89], [0xCB, 0x8A], [0xCB, 0x8B], [0xCB, 0x8C], [0xCB, 0x8D], [0xCB, 0x8E], [0xCB, 0x8F]] =
      decoded [.res0B, .res0C, .res0D, .res0E, .res0H, .res0L, .res0IndHl, .res0A, .res1B, .res1C, .res1D, .res1E, .res1H,
               .res1L, .res1IndHl, .res1A] := by decide +kernel

theorem test_decode_cb_row_9 :
    decodeAll
      [[0xCB, 0x90], [0xCB, 0x91], [0xCB, 0x92], [0xCB, 0x93], [0xCB, 0x94], [0xCB, 0x95], [0xCB, 0x96], [0xCB, 0x97],
       [0xCB, 0x98], [0xCB, 0x99], [0xCB, 0x9A], [0xCB, 0x9B], [0xCB, 0x9C], [0xCB, 0x9D], [0xCB, 0x9E], [0xCB, 0x9F]] =
      decoded [.res2B, .res2C, .res2D, .res2E, .res2H, .res2L, .res2IndHl, .res2A, .res3B, .res3C, .res3D, .res3E, .res3H,
               .res3L, .res3IndHl, .res3A] := by decide +kernel

theorem test_decode_cb_row_A :
    decodeAll
      [[0xCB, 0xA0], [0xCB, 0xA1], [0xCB, 0xA2], [0xCB, 0xA3], [0xCB, 0xA4], [0xCB, 0xA5], [0xCB, 0xA6], [0xCB, 0xA7],
       [0xCB, 0xA8], [0xCB, 0xA9], [0xCB, 0xAA], [0xCB, 0xAB], [0xCB, 0xAC], [0xCB, 0xAD], [0xCB, 0xAE], [0xCB, 0xAF]] =
      decoded [.res4B, .res4C, .res4D, .res4E, .res4H, .res4L, .res4IndHl, .res4A, .res5B, .res5C, .res5D, .res5E, .res5H,
               .res5L, .res5IndHl, .res5A] := by decide +kernel

theorem test_decode_cb_row_B :
    decodeAll
      [[0xCB, 0xB0], [0xCB, 0xB1], [0xCB, 0xB2], [0xCB, 0xB3], [0xCB, 0xB4], [0xCB, 0xB5], [0xCB, 0xB6], [0xCB, 0xB7],
       [0xCB, 0xB8], [0xCB, 0xB9], [0xCB, 0xBA], [0xCB, 0xBB], [0xCB, 0xBC], [0xCB, 0xBD], [0xCB, 0xBE], [0xCB, 0xBF]] =
      decoded [.res6B, .res6C, .res6D, .res6E, .res6H, .res6L, .res6IndHl, .res6A, .res7B, .res7C, .res7D, .res7E, .res7H,
               .res7L, .res7IndHl, .res7A] := by decide +kernel

theorem test_decode_cb_row_C :
    decodeAll
      [[0xCB, 0xC0], [0xCB, 0xC1], [0xCB, 0xC2], [0xCB, 0xC3], [0xCB, 0xC4], [0xCB, 0xC5], [0xCB, 0xC6], [0xCB, 0xC7],
       [0xCB, 0xC8], [0xCB, 0xC9], [0xCB, 0xCA], [0xCB, 0xCB], [0xCB, 0xCC], [0xCB, 0xCD], [0xCB, 0xCE], [0xCB, 0xCF]] =
      decoded [.set0B, .set0C, .set0D, .set0E, .set0H, .set0L, .set0IndHl, .set0A, .set1B, .set1C, .set1D, .set1E, .set1H,
               .set1L, .set1IndHl, .set1A] := by decide +kernel

theorem test_decode_cb_row_D :
    decodeAll
      [[0xCB, 0xD0], [0xCB, 0xD1], [0xCB, 0xD2], [0xCB, 0xD3], [0xCB, 0xD4], [0xCB, 0xD5], [0xCB, 0xD6], [0xCB, 0xD7],
       [0xCB, 0xD8], [0xCB, 0xD9], [0xCB, 0xDA], [0xCB, 0xDB], [0xCB, 0xDC], [0xCB, 0xDD], [0xCB, 0xDE], [0xCB, 0xDF]] =
      decoded [.set2B, .set2C, .set2D, .set2E, .set2H, .set2L, .set2IndHl, .set2A, .set3B, .set3C, .set3D, .set3E, .set3H,
               .set3L, .set3IndHl, .set3A] := by decide +kernel

theorem test_decode_cb_row_E :
    decodeAll
      [[0xCB, 0xE0], [0xCB, 0xE1], [0xCB, 0xE2], [0xCB, 0xE3], [0xCB, 0xE4], [0xCB, 0xE5], [0xCB, 0xE6], [0xCB, 0xE7],
       [0xCB, 0xE8], [0xCB, 0xE9], [0xCB, 0xEA], [0xCB, 0xEB], [0xCB, 0xEC], [0xCB, 0xED], [0xCB, 0xEE], [0xCB, 0xEF]] =
      decoded [.set4B, .set4C, .set4D, .set4E, .set4H, .set4L, .set4IndHl, .set4A, .set5B, .set5C, .set5D, .set5E, .set5H,
               .set5L, .set5IndHl, .set5A] := by decide +kernel

theorem test_decode_cb_row_F :
    decodeAll
      [[0xCB, 0xF0], [0xCB, 0xF1], [0xCB, 0xF2], [0xCB, 0xF3], [0xCB, 0xF4], [0xCB, 0xF5], [0xCB, 0xF6], [0xCB, 0xF7],
       [0xCB, 0xF8], [0xCB, 0xF9], [0xCB, 0xFA], [0xCB, 0xFB], [0xCB, 0xFC], [0xCB, 0xFD], [0xCB, 0xFE], [0xCB, 0xFF]] =
      decoded [.set6B, .set6C, .set6D, .set6E, .set6H, .set6L, .set6IndHl, .set6A, .set7B, .set7C, .set7D, .set7E, .set7H,
               .set7L, .set7IndHl, .set7A] := by decide +kernel

/-! ### The opcode table's numbering (30_encoding.md, opcode_table.json) -/

theorem test_table_words :
    decodeTableWord 8 0x76 = some .halt ∧ decodeTableWord 16 0x4206 = some (.ldBD8 0x42) ∧
      decodeTableWord 24 0x1234C3 = some (.jpA16 0x1234) ∧ decodeTableWord 8 0xFE = some (.cpAD8 0x00) := by decide +kernel

/-- The table numbers a CB row with the prefix in bits 15-8 (log entry 10). -/
theorem test_table_cb_words : decodeTableWord 16 0xCB37 = some .swapA ∧ decodeTableWord 16 0xCB86 = some .res0IndHl := by
  decide +kernel

/-- Step runs a placed word as the first instruction after reset: LD B,0x42. -/
theorem test_a_placed_word_runs : after (State.reset.withFetchWord 16 0x4206) (fun t => t.cpu.b) = some 0x42 := by
  decide +kernel

/-! ### Loads, stores and the stack (95_test_vectors.md 2.1) -/

theorem test_ld_hl_sp_carries :
    after (withCpu (start [0xF8, 0xFF]) fun c => { c with sp := 0x0001 })
      (fun t => (t.cpu.hl, t.cpu.f, t.cpu.sp, t.stepCycles)) = some (0x0000, 0x30, 0x0001, 12) := by decide +kernel

theorem test_ld_hl_sp_negative :
    after (withCpu (start [0xF8, 0x80]) fun c => { c with sp := 0x0000 }) (fun t => (t.cpu.hl, t.cpu.f, t.stepCycles)) =
      some (0xFF80, 0x00, 12) := by decide +kernel

theorem test_ld_a16_sp_at_the_top :
    after (withCpu (start [0x08, 0xFF, 0xFF]) fun c => { c with sp := 0x1234 }) (fun t => (t.ie, t.cart.romBank, t.stepCycles)) =
      some (0x34, 1, 20) := by decide +kernel

theorem test_push_af :
    after (withCpu (start [0xF5]) fun c => { c with a := 0x12, f := 0xB0, sp := 0xD000 })
      (fun t => (t.memRead 0xCFFF, t.memRead 0xCFFE, t.cpu.sp, t.stepCycles)) = some (0x12, 0xB0, 0xCFFE, 16) := by decide +kernel

theorem test_pop_bc :
    after (withCpu (startData [0xC1] [0xB0, 0x12]) fun c => { c with sp := 0xD000 })
      (fun t => (t.cpu.b, t.cpu.c, t.cpu.sp, t.stepCycles)) = some (0x12, 0xB0, 0xD002, 12) := by decide +kernel

theorem test_pop_af_drops_the_low_nibble :
    after (withCpu (startData [0xF1] [0xFF, 0x12]) fun c => { c with sp := 0xD000 }) afc = some (0x12, 0xF0, 12) := by
  decide +kernel

theorem test_ld_a_hld_wraps :
    after (withCpu (start [0x3A]) fun c => { c with h := 0x00, l := 0x00 }) (fun t => (t.cpu.a, t.cpu.hl, t.stepCycles)) =
      some (0x00, 0xFFFF, 8) := by decide +kernel

theorem test_ld_hli_a_wraps :
    after (withCpu (start [0x22]) fun c => { c with h := 0xFF, l := 0xFF, a := 0x07 })
      (fun t => (t.ie, t.cpu.hl, t.stepCycles)) = some (0x07, 0x0000, 8) := by decide +kernel

theorem test_ld_c_a :
    after (withCpu (start [0xE2]) fun c => { c with c := 0x80, a := 0x3C }) (fun t => (t.memRead 0xFF80, t.stepCycles)) =
      some (0x3C, 8) := by decide +kernel

theorem test_ldh_a8_a :
    after (withCpu (start [0xE0, 0x0F]) fun c => { c with a := 0x00 }) (fun t => (t.memRead 0xFF0F, t.stepCycles)) =
      some (0xE0, 12) := by decide +kernel

theorem test_ld_de_a_reaches_the_controller :
    after { withCart 0x200000 [(0x147, 0x01)] with
        cpu := { State.reset.cpu with d := 0x20, e := 0x00, a := 0x03, pc := 0xC000 }, mem := [(0xC000, 0x12)] }
      (fun t => (t.cart.romBank, t.mem, t.stepCycles)) = some (3, [(0xC000, 0x12)], 8) := by decide +kernel

/-! ### Arithmetic and logic (95_test_vectors.md 2.2, 2.3, W2 to W4) -/

theorem test_adc_half_carry_from_the_carry_in :
    after (withCpu (start [0xCE, 0x00]) (withAf 0x0F 0x10)) afc = some (0x10, 0x20, 8) := by decide +kernel

theorem test_adc_wraps : after (withCpu (start [0xCE, 0x00]) (withAf 0xFF 0x10)) afc = some (0x00, 0xB0, 8) := by decide +kernel

theorem test_sbc_borrows : after (withCpu (start [0xDE, 0x00]) (withAf 0x00 0x10)) afc = some (0xFF, 0x70, 8) := by
  decide +kernel

theorem test_sub : after (withCpu (start [0xD6, 0x01]) (withAf 0x10 0x00)) afc = some (0x0F, 0x60, 8) := by decide +kernel

theorem test_cp_keeps_a : after (withCpu (start [0xBF]) (withAf 0x42 0x00)) afc = some (0x42, 0xC0, 4) := by decide +kernel

theorem test_xor_a_a : after (withCpu (start [0xAF]) (withAf 0x42 0x50)) afc = some (0x00, 0x80, 4) := by decide +kernel

theorem test_and : after (withCpu (start [0xE6, 0x0F]) (withAf 0xF0 0x10)) afc = some (0x00, 0xA0, 8) := by decide +kernel

theorem test_or_hl :
    after (withCpu (startData [0xB6] [0x80]) fun c => { c with a := 0x01, f := 0x00, h := 0xD0, l := 0x00 }) afc =
      some (0x81, 0x00, 8) := by decide +kernel

theorem test_inc_b :
    after (withCpu (start [0x04]) fun c => { c with b := 0x0F, f := 0x10 }) (fun t => (t.cpu.b, t.cpu.f, t.stepCycles)) =
      some (0x10, 0x30, 4) := by decide +kernel

theorem test_inc_a_wraps : after (withCpu (start [0x3C]) (withAf 0xFF 0x10)) afc = some (0x00, 0xB0, 4) := by decide +kernel

theorem test_dec_a_wraps : after (withCpu (start [0x3D]) (withAf 0x00 0x00)) afc = some (0xFF, 0x60, 4) := by decide +kernel

theorem test_inc_hl_in_memory :
    after (withCpu (startData [0x34] [0x0F]) fun c => { c with h := 0xD0, l := 0x00, f := 0x10 })
      (fun t => (t.memRead 0xD000, t.cpu.f, t.stepCycles)) = some (0x10, 0x30, 12) := by decide +kernel

theorem test_add_hl_hl :
    after (withCpu (start [0x29]) fun c => { c with h := 0x80, l := 0x00, f := 0x80 })
      (fun t => (t.cpu.hl, t.cpu.f, t.stepCycles)) = some (0x0000, 0x90, 8) := by decide +kernel

theorem test_add_hl_bc_half_carry :
    after (withCpu (start [0x09]) fun c => { c with h := 0x0F, l := 0xFF, b := 0x00, c := 0x01, f := 0x00 })
      (fun t => (t.cpu.hl, t.cpu.f)) = some (0x1000, 0x20) := by decide +kernel

theorem test_add_sp_minus_one_from_zero :
    after (withCpu (start [0xE8, 0xFF]) fun c => { c with sp := 0x0000, f := 0xF0 })
      (fun t => (t.cpu.sp, t.cpu.f, t.stepCycles)) = some (0xFFFF, 0x00, 16) := by decide +kernel

theorem test_add_sp_carries_out_of_the_low_byte :
    after (withCpu (start [0xE8, 0x10]) fun c => { c with sp := 0xFFF8, f := 0x00 }) (fun t => (t.cpu.sp, t.cpu.f)) =
      some (0x0008, 0x10) := by decide +kernel

theorem test_inc_sp_keeps_flags :
    after (withCpu (start [0x33]) fun c => { c with sp := 0xFFFF, f := 0xF0 })
      (fun t => (t.cpu.sp, t.cpu.f, t.stepCycles)) = some (0x0000, 0xF0, 8) := by decide +kernel

theorem test_dec_bc_wraps :
    after (withCpu (start [0x0B]) fun c => { c with b := 0x00, c := 0x00, f := 0x00 }) (fun t => (t.cpu.bc, t.cpu.f)) =
      some (0xFFFF, 0x00) := by decide +kernel

/-! ### Rotates, shifts and bits (95_test_vectors.md 2.4) -/

theorem test_rlca_never_sets_z : after (withCpu (start [0x07]) (withAf 0x00 0xF0)) afc = some (0x00, 0x00, 4) := by
  decide +kernel

theorem test_rlc_b :
    after (withCpu (start [0xCB, 0x00]) fun c => { c with b := 0x00, f := 0x70 })
      (fun t => (t.cpu.b, t.cpu.f, t.cpu.pc, t.stepCycles)) = some (0x00, 0x80, 0xC002, 8) := by decide +kernel

theorem test_rl_a : after (withCpu (start [0xCB, 0x17]) (withAf 0x80 0x00)) afc = some (0x00, 0x90, 8) := by decide +kernel

theorem test_sra_b :
    after (withCpu (start [0xCB, 0x28]) fun c => { c with b := 0x01 }) (fun t => (t.cpu.b, t.cpu.f)) = some (0x00, 0x90) := by
  decide +kernel

theorem test_swap_a : after (withCpu (start [0xCB, 0x37]) (withAf 0x00 0x70)) afc = some (0x00, 0x80, 8) := by decide +kernel

theorem test_srl_hl :
    after (withCpu (startData [0xCB, 0x3E] [0x01]) fun c => { c with h := 0xD0, l := 0x00, f := 0x00 })
      (fun t => (t.memRead 0xD000, t.cpu.f, t.stepCycles)) = some (0x00, 0x90, 16) := by decide +kernel

theorem test_bit_3_hl_set :
    after (withCpu (startData [0xCB, 0x5E] [0x08]) fun c => { c with h := 0xD0, l := 0x00, f := 0x10 })
      (fun t => (t.cpu.f, t.stepCycles)) = some (0x30, 12) := by decide +kernel

theorem test_bit_3_hl_clear :
    after (withCpu (startData [0xCB, 0x5E] [0xF7]) fun c => { c with h := 0xD0, l := 0x00, f := 0x10 })
      (fun t => t.cpu.f) = some 0xB0 := by decide +kernel

theorem test_res_0_hl :
    after (withCpu (startData [0xCB, 0x86] [0xFF]) fun c => { c with h := 0xD0, l := 0x00, f := 0x50 })
      (fun t => (t.memRead 0xD000, t.cpu.f, t.stepCycles)) = some (0xFE, 0x50, 16) := by decide +kernel

theorem test_set_0_a : after (withCpu (start [0xCB, 0xC7]) (withAf 0x00 0x00)) afc = some (0x01, 0x00, 8) := by decide +kernel

/-! ### Control transfer (95_test_vectors.md 2.5) -/

theorem test_jr_to_itself : after (start [0x18, 0xFE]) psc = some (0xC000, 0xFFFE, 12) := by decide +kernel

theorem test_jr_wraps :
    after { State.reset with cpu := { State.reset.cpu with pc := 0xFFF0 }, mem := [(0xFFF0, 0x18), (0xFFF1, 0x7F)] } psc =
      some (0x0071, 0xFFFE, 12) := by decide +kernel

theorem test_jp_nc_not_taken :
    after (withCpu (start [0xD2, 0x00, 0x40]) fun c => { c with f := 0x10 }) psc = some (0xC003, 0xFFFE, 12) := by decide +kernel

theorem test_call_z_not_taken :
    after (withCpu (start [0xCC, 0x00, 0x40]) fun c => { c with f := 0x00 }) psc = some (0xC003, 0xFFFE, 12) := by decide +kernel

theorem test_ret_c_taken :
    after (withCpu (startData [0xD8] [0x00, 0x00]) fun c => { c with f := 0x10, sp := 0xD000 }) psc =
      some (0x0000, 0xD002, 20) := by decide +kernel

theorem test_rst_38 :
    after (withCpu (start [0xFF]) fun c => { c with sp := 0xD000 }) (fun t => (psc t, t.memRead 0xCFFE, t.memRead 0xCFFF)) =
      some ((0x0038, 0xCFFE, 16), 0x01, 0xC0) := by decide +kernel

theorem test_call_pushes_the_high_byte_first :
    after (withCpu (start [0xCD, 0x00, 0x40]) fun c => { c with sp := 0x0001 }) (fun t => (psc t, t.ie)) =
      some ((0x4000, 0xFFFF, 24), 0x03) := by decide +kernel

/-! ### Miscellaneous (95_test_vectors.md 2.6) -/

theorem test_daa_adds :
    after (withCpu (start [0x27]) (withAf 0x9A 0x00)) afc = some (0x00, 0x90, 4) := by decide +kernel

theorem test_daa_subtracts :
    after (withCpu (start [0x27]) (withAf 0x00 0x70)) afc = some (0x9A, 0x50, 4) := by decide +kernel

theorem test_ccf : after (withCpu (start [0x3F]) (withAf 0x01 0x00)) afc = some (0x01, 0x10, 4) := by decide +kernel

theorem test_scf : after (withCpu (start [0x37]) (withAf 0x01 0xF0)) afc = some (0x01, 0x90, 4) := by decide +kernel

theorem test_cpl : after (withCpu (start [0x2F]) (withAf 0x00 0x90)) afc = some (0xFF, 0xF0, 4) := by decide +kernel

theorem test_illegal_db :
    after (start [0xDB]) (fun t => (psc t, t.diag)) = some ((0xC001, 0xFFFE, 4), [.unknownOpcode 0xDB 0xC000]) := by
  decide +kernel

theorem test_illegal_db_cycles :
    after { start [0xDB] with par := { illegalOpCycles := 1 } } psc = some (0xC001, 0xFFFE, 1) := by decide +kernel

theorem test_stop : after (start [0x10, 0x00]) (fun t => (psc t, t.cpu.stop)) = some ((0xC002, 0xFFFE, 4), true) := by
  decide +kernel

theorem test_stop_idles :
    after (withCpu (start [0x04]) fun c => { c with stop := true }) (fun t => (psc t, t.cpu.stop)) =
      some ((0xC000, 0xFFFE, 4), true) := by decide +kernel

theorem test_halt_wakes_without_ime :
    after { start [0x76] with ie := 0x04, iflag := 0xE4 } (fun t => (psc t, t.cpu.halt, t.iflag)) =
      some ((0xC001, 0xFFFE, 4), false, 0xE4) := by decide +kernel

theorem test_halt_dispatches_in_its_own_step :
    after { withCpu (start [0x76]) fun c => { c with ime := true, sp := 0xD000 } with ie := 0x04, iflag := 0xE4 }
      (fun t => (psc t, t.memRead 0xCFFE, t.memRead 0xCFFF, t.cpu.ime)) =
      some ((0x0050, 0xCFFE, 24), 0x01, 0xC0, false) := by decide +kernel

theorem test_ei_is_delayed :
    after { start [0xFB, 0x00] with ie := 0x01, iflag := 0xE1 } (fun t => (psc t, t.cpu.ime)) =
      some ((0xC001, 0xFFFE, 4), true) := by decide +kernel

theorem test_ei_without_the_delay :
    after { withCpu (start [0xFB]) fun c => { c with sp := 0xD000 } with ie := 0x01, iflag := 0xE1, par := { eiDelay := false } }
      (fun t => (psc t, t.memRead 0xCFFE)) = some ((0x0040, 0xCFFE, 24), 0x01) := by decide +kernel

theorem test_di : after { withCpu (start [0xF3]) fun c => { c with ime := true } with ie := 0x01, iflag := 0xE1 }
      (fun t => (psc t, t.cpu.ime)) = some ((0xC001, 0xFFFE, 4), false) := by decide +kernel

theorem test_reti_dispatches_in_its_own_step :
    after { withCpu (startData [0xD9] [0x00, 0x00]) fun c => { c with sp := 0xD000 } with ie := 0x01, iflag := 0xE1 }
      (fun t => (psc t, t.memRead 0xD000, t.memRead 0xD001, t.iflag, t.cpu.ime)) =
      some ((0x0040, 0xD000, 36), 0x00, 0x00, 0xE0, false) := by decide +kernel

/-! ### Interrupts (95_test_vectors.md W7, 2.7) -/

/-- A NOP at 0xC000 with IME, IE and IF given. -/
def irq (ime : Bool) (ie iflag : Byte) : State :=
  { withCpu (start [0x00]) fun c => { c with ime := ime, sp := 0xD000 } with ie := ie, iflag := iflag }

theorem test_vblank_has_priority :
    after (irq true 0x1F 0xFF) (fun t => (psc t, t.iflag)) = some ((0x0040, 0xCFFE, 24), 0xFE) := by decide +kernel

theorem test_timer_before_joypad :
    after (irq true 0x14 0xFC) (fun t => (psc t, t.iflag)) = some ((0x0050, 0xCFFE, 24), 0xF8) := by decide +kernel

theorem test_joypad_vector :
    after (irq true 0x10 0xF0) (fun t => (psc t, t.iflag, t.memRead 0xCFFE, t.memRead 0xCFFF)) =
      some ((0x0060, 0xCFFE, 24), 0xE0, 0x01, 0xC0) := by decide +kernel

theorem test_nothing_enabled :
    after (irq true 0x00 0xFF) (fun t => (psc t, t.cpu.ime)) = some ((0xC001, 0xD000, 4), true) := by decide +kernel

theorem test_ime_clear : after (irq false 0x1F 0xFF) psc = some (0xC001, 0xD000, 4) := by decide +kernel

/-! ### Timer (95_test_vectors.md 2.8) -/

theorem test_div :
    (State.reset.timerUpdate 255).timer.div = 0xAB ∧ ((State.reset.timerUpdate 255).timerUpdate 1).timer.div = 0xAC := by
  decide +kernel

/-- A timer set-up. -/
def timed (tac : BitVec 3) (tima tma iflag : Byte) (c : Nat) : Byte × Byte :=
  let t := { State.reset with timer := { Timer.reset with tac := tac, tima := tima, tma := tma }, iflag := iflag }.timerUpdate c
  (t.timer.tima, t.iflag)

theorem test_tima_overflow :
    timed 5 0xFF 0x80 0xE1 15 = (0xFF, 0xE1) ∧ timed 5 0xFF 0x80 0xE1 16 = (0x80, 0xE5) ∧
      timed 4 0xFE 0x00 0xE0 2048 = (0x00, 0xE4) ∧ timed 7 0xFF 0xFE 0xE0 768 = (0xFE, 0xE4) := by decide +kernel

theorem test_timer_off :
    timed 3 0x00 0x00 0xE1 10000 = (0x00, 0xE1) ∧
      ({ State.reset with timer := { Timer.reset with tac := 3 } }.timerUpdate 10000).timer.div = 0xD2 := by decide +kernel

theorem test_timer_registers :
    (State.reset.memWrite 0xFF07 0xFE).memRead 0xFF07 = 0xFE ∧ State.reset.memRead 0xFF07 = 0xF8 ∧
      ((State.reset.timerUpdate 255).memWrite 0xFF04 0x77).timer = { Timer.reset with div := 0x00 } := by decide +kernel

/-! ### Joypad (95_test_vectors.md 2.9) -/

theorem test_joypad_reads :
    State.reset.memRead 0xFF00 = 0xCF ∧ (State.reset.memWrite 0xFF00 0x20).memRead 0xFF00 = 0xEF ∧
      (((State.reset.memWrite 0xFF00 0x20).keyPress .right).memRead 0xFF00) = 0xEE ∧
      ((((State.reset.keyPress .right).keyPress .start).memWrite 0xFF00 0x00).memRead 0xFF00) = 0xC6 ∧
      ((((State.reset.keyPress .right).keyPress .start).memWrite 0xFF00 0x30).memRead 0xFF00) = 0xFF := by decide +kernel

theorem test_key_interrupt :
    ({ State.reset with iflag := 0xE0 }.keyPress .right).iflag = 0xF0 ∧
      (({ State.reset with iflag := 0xE0 }.keyPress .right).keyRelease .right).iflag = 0xE0 := by decide +kernel

/-- 60_exceptions.md R437: a press and a release change one key's bit. -/
theorem test_key_masks :
    (State.reset.keyPress .down).joy = ⟨0, 0x7, 0xF⟩ ∧ ((State.reset.keyPress .down).keyPress .b).joy = ⟨0, 0x7, 0xD⟩ ∧
      (((State.reset.keyPress .down).keyPress .b).keyRelease .down).joy = ⟨0, 0xF, 0xD⟩ := by decide +kernel

/-! ### PPU (95_test_vectors.md 2.10) -/

/-- LY, `dot`, STAT as read and IF after c cycles from reset with IF = E0. -/
def ppuAfter (f : Ppu → Ppu) (c : Nat) : Byte × Nat × Byte × Byte :=
  let t := { State.reset with ppu := f Ppu.reset, iflag := 0xE0 }.ppuUpdate c
  (t.ppu.ly, t.ppu.dot, t.memRead 0xFF41, t.iflag)

theorem test_ppu_modes :
    ppuAfter id 0 = (0, 0, 0x85, 0xE0) ∧ ppuAfter id 1 = (0, 1, 0x86, 0xE0) ∧ ppuAfter id 80 = (0, 80, 0x87, 0xE0) ∧
      ppuAfter id 252 = (0, 252, 0x84, 0xE0) ∧ ppuAfter id 456 = (1, 0, 0x82, 0xE0) := by decide +kernel

theorem test_ppu_vblank :
    ppuAfter (fun p => { p with ly := 143, dot := 455, stat := 0x80 }) 1 = (144, 0, 0x81, 0xE1) := by decide +kernel

theorem test_ppu_frame_wraps :
    ppuAfter (fun p => { p with ly := 153, dot := 455, stat := 0x81 }) 1 = (0, 0, 0x86, 0xE0) := by decide +kernel

theorem test_ppu_edges :
    ppuAfter (fun p => { p with ly := 1, dot := 455, stat := 0xC0, lyc := 2 }) 1 = (2, 0, 0xC6, 0xE2) ∧
      ppuAfter (fun p => { p with stat := 0xAD }) 1 = (0, 1, 0xAE, 0xE2) ∧
      ppuAfter (fun p => { p with stat := 0xAF, dot := 251 }) 1 = (0, 252, 0xAC, 0xE2) := by decide +kernel

theorem test_lcd_off :
    ppuAfter (fun p => { p with lcdc := 0x11, ly := 2, dot := 88, stat := 0x83 }) 70224 = (0, 0, 0x80, 0xE0) := by decide +kernel

theorem test_stat_write : (State.reset.memWrite 0xFF41 0xFF).memRead 0xFF41 = 0xFD := by decide +kernel

/-! ### Rendering (95_test_vectors.md 2.11): the shades of pixels 0 to 9 of line 0 -/

/-- VRAM of the vectors: tile 0 row 0 zero, tile 1 row 0 = F0 CC, tile 2 row 0 = FF 00, tile 3 row 0 = FF FF, and map entries. -/
def tiles (m : List Byte) : Mem :=
  cells 0x0000 [0x00, 0x00] ++ cells 0x0010 [0xF0, 0xCC] ++ cells 0x0020 [0xFF, 0x00] ++ cells 0x0030 [0xFF, 0xFF] ++ cells 0x1800 m

/-- The red component of the first pixels: FF, C0, 60, 00 for shades 0 to 3. -/
def reds (n : Nat) (p : Ppu) : List Byte := ((renderRow {} p 0).take n).map Rgba.r

/-- A PPU with no sprite on the line and the palettes of the vectors. -/
def screen (lcdc : Byte) (m : List Byte) (oam : Mem) : Ppu :=
  { Ppu.reset with lcdc := lcdc, bgp := 0xE4, obp0 := 0xE4, obp1 := 0x1B, vram0 := tiles m, oam := oam }

/-- Map row 0: tile 1, then tile 0. -/
def oneTile : List Byte := [1, 0, 0, 0, 0, 0, 0, 0, 0, 0, 0, 0, 0, 0, 0, 0, 0, 0, 0, 0, 0, 0, 0, 0, 0, 0, 0, 0, 0, 0, 0, 0]

theorem test_background :
    reds 10 (screen 0x91 oneTile []) = [0x00, 0x00, 0xC0, 0xC0, 0x60, 0x60, 0xFF, 0xFF, 0xFF, 0xFF] := by decide +kernel

theorem test_background_scrolls :
    reds 4 { screen 0x91 oneTile [] with scx := 0xFE } = [0xFF, 0xFF, 0x00, 0x00] := by decide +kernel

theorem test_window_left_edge :
    reds 6 { screen 0xB1 oneTile [] with wy := 0, wx := 11, scx := 8 } = [0xFF, 0xFF, 0xFF, 0xFF, 0x00, 0x00] := by decide +kernel

/-- OAM with every entry off the line but the ones given first. -/
def sprites (l : List Byte) : Mem := cells 0 (l ++ List.replicate (160 - l.length) 0x00)

theorem test_sprite_flip :
    reds 10 (screen 0x93 (0 :: oneTile.tail) (sprites [16, 8, 1, 0x20])) =
      [0xFF, 0xFF, 0x60, 0x60, 0xC0, 0xC0, 0x00, 0x00, 0xFF, 0xFF] := by decide +kernel

theorem test_sprite_priority :
    reds 10 (screen 0x93 (0 :: oneTile.tail) (sprites [16, 10, 1, 0x00, 16, 8, 1, 0x10])) =
      [0xFF, 0xFF, 0x00, 0x00, 0xC0, 0xC0, 0x60, 0x60, 0xFF, 0xFF] := by decide +kernel

theorem test_sprite_behind :
    reds 10 (screen 0x93 oneTile (sprites [16, 8, 2, 0x80])) =
      [0x00, 0x00, 0xC0, 0xC0, 0x60, 0x60, 0xC0, 0xC0, 0xFF, 0xFF] := by decide +kernel

/-! ### Controllers, DMA and registers (95_test_vectors.md 2.12, W5, W9) -/

/-- A 128-bank cartridge of the given type with each tested bank's first byte. -/
def banked (type : Byte) : State :=
  withCart 0x200000 [(0x147, type), (0x1F * 0x4000, 0x1F), (0x25 * 0x4000, 0x25), (0x7F * 0x4000, 0x7F)]

theorem test_mbc1_zero_is_one :
    let t := (banked 0x01).memWrite 0x2000 0x00
    t.cart.romBank = 1 ∧ t.diag = [.bankCoerced 0x2000 0x00 1] := by decide +kernel

theorem test_mbc1_banks :
    (writes (banked 0x01) [(0x2000, 0xFF)]).memRead 0x4000 = 0x1F ∧
      (writes (banked 0x01) [(0x2000, 0x05), (0x4000, 0x01)]).memRead 0x4000 = 0x25 ∧
      (writes (banked 0x01) [(0x4000, 0x01), (0x2000, 0x00)]).cart.romBank = 0x21 ∧
      (writes (banked 0x01) [(0x6000, 0x01), (0x4000, 0x02)]).cart.ramBank = 2 := by decide +kernel

theorem test_mbc1_past_the_cartridge :
    let t := (withCart 0x10000 [(0x147, 0x01), (0xC000, 0x03)]).memWrite 0x2000 0x07
    t.cart.romBank = 7 ∧ t.memRead 0x4000 = 0x03 ∧ t.diag = [.bankCoerced 0x2000 0x07 7] := by decide +kernel

theorem test_external_ram :
    (writes (banked 0x01) [(0xA000, 0x55)]).memRead 0xA000 = 0xFF ∧
      (writes (banked 0x01) [(0x0000, 0x1A), (0xA000, 0x55)]).memRead 0xA000 = 0x55 ∧
      (writes (banked 0x01) [(0x0000, 0x1A), (0xA000, 0x55), (0x0000, 0x0B)]).memRead 0xA000 = 0xFF := by decide +kernel

theorem test_mbc2 :
    (writes (banked 0x05) [(0x2100, 0x03), (0x2000, 0x0A), (0xA000, 0x5C)]).memRead 0xA200 = 0xFC ∧
      (writes (banked 0x05) [(0x2100, 0x03), (0x2000, 0x0A)]).cart.romBank = 3 ∧
      (writes (banked 0x05) [(0x0100, 0x00)]).cart.romBank = 1 := by decide +kernel

theorem test_mbc3 :
    (writes (banked 0x10) [(0x2000, 0x80)]).cart.romBank = 1 ∧ (writes (banked 0x10) [(0x2000, 0x7F)]).memRead 0x4000 = 0x7F ∧
      (writes (banked 0x10) [(0x0000, 0x0A), (0x4000, 0x08), (0x4000, 0x03), (0xA000, 0x33)]).memRead 0xA000 = 0x33 ∧
      (writes (banked 0x10) [(0x4000, 0x08), (0x4000, 0x0D)]).cart.rtcSelect = some .r08 := by decide +kernel

theorem test_mbc3_clock_read_is_a_draw :
    (writes (banked 0x10) [(0x0000, 0x0A), (0x4000, 0x08)]).memRead 0xA000 = Config.rtcRead .r08 0xA000 0 := by rfl

theorem test_mbc5 :
    (writes (banked 0x19) [(0x2000, 0x00)]).cart.romBank = 1 ∧ (writes (banked 0x19) [(0x3000, 0x01)]).cart.romBank = 0x101 ∧
      (writes (banked 0x19) [(0x3000, 0x01), (0x2000, 0x00)]).cart.romBank = 0x100 ∧
      (writes (banked 0x19) [(0x4000, 0x1F)]).cart.ramBank = 0x0F := by decide +kernel

theorem test_short_and_unsupported_cartridges :
    (withCart 0x150 []).memRead 0x0150 = 0xFF ∧ (withCart 0x150 []).memRead 0x4000 = 0xFF ∧
      (withCart 0x8000 [(0x147, 0xFC)]).diag = [.unsupportedCartridge 0xFC] ∧
      (loadCart {} ⟨0x14F, []⟩) = .error (.cartTooShort 0x14F) := by decide +kernel

/-- 20_memory.md R87, R86: the overlay is read while booting, a write there goes to the controller. -/
theorem test_boot_overlay :
    let s := State.resetWith { bootRom := some [(0xFF, 0x50)] } ⟨0x8000, [(0xFF, 0x11), (0x100, 0x22)]⟩
    s.memRead 0x00FF = 0x50 ∧ (s.memWrite 0x00FF 0x33).memRead 0x00FF = 0x50 ∧ s.memRead 0x0100 = 0x22 ∧
      State.memRead { s with booting := false } 0x00FF = 0x11 := by decide +kernel

theorem test_oam_dma :
    (State.reset.memWrite 0xFF46 0xA0).memRead 0xFE00 = 0xFF ∧
      (({ State.reset with mem := [(0xC09F, 0x9F)] }.memWrite 0xFF46 0xC0).memRead 0xFE9F) = 0x9F ∧
      (State.reset.memWrite 0xFF46 0xC0).memRead 0xFF46 = 0xC0 := by decide +kernel

theorem test_registers :
    (State.reset.memWrite 0xFF0F 0x00).memRead 0xFF0F = 0xE0 ∧ (State.reset.memWrite 0xFFFF 0xFF).memRead 0xFFFF = 0xFF ∧
      (writes State.reset [(0xC000, 0x12), (0xE000, 0x34)]).memRead 0xC000 = 0x12 := by decide +kernel

theorem test_colour_palette :
    let t := writes { State.reset with par := { colorMode := true } }
      [(0xFF68, 0x88), (0xFF69, 0x1F), (0xFF69, 0x00), (0xFF69, 0xE0), (0xFF69, 0x03)]
    t.ppu.bgPal = [(8, 0x1F), (9, 0x00), (10, 0xE0), (11, 0x03)] ∧ t.memRead 0xFF68 = 0xCC := by decide +kernel

/-! ### The canonical form of the memories -/

theorem test_reset_memories_are_canonical :
    Mem.wf 0x10000 memDefault State.reset.mem = true ∧ State.reset.ppu.vram0 = [] ∧ State.reset.cart.extRam = [] := by decide

theorem test_a_write_of_the_unlisted_value_unlists :
    (writes State.reset [(0xFF10, 0x55), (0xFF10, 0x80)]).mem = [] := by decide +kernel

/-! ### Witnesses: for each statement with hypotheses, states and operands that meet all of them together -/

theorem witness_LoadsIntoAnEightBitRegister : regOf .b = some .b ∧ regOf .a = some .a ∧ regOf .indHl = none := by decide

theorem witness_IllegalOpcodesAreDiagnosedNoOps :
    ((0xD3 : Byte), Instr.illegalD3) ∈ [((0xD3 : Byte), Instr.illegalD3), (0xDB, .illegalDB), (0xDD, .illegalDD),
      (0xE3, .illegalE3), (0xE4, .illegalE4), (0xEB, .illegalEB), (0xEC, .illegalEC), (0xED, .illegalED), (0xF4, .illegalF4),
      (0xFC, .illegalFC), (0xFD, .illegalFD)] := by decide

theorem witness_DecodingAnEncodingGivesTheInstruction :
    (Instr.ldBcD16 0xFFFF).wf = true ∧ (Instr.jrE8 0x80).wf = true ∧ Instr.set7A.wf = true := by decide

theorem witness_LengthFollowsFromTheFirstByte :
    decode [0xFA, 0xFF, 0x00] = .ok (.ldAIndA16 0x00FF, []) ∧ decode [0xCB, 0xFF, 0x00] = .ok (.set7A, [0x00]) ∧
      decode [0xFF, 0x01, 0x02] = .ok (.rst38, [0x01, 0x02]) := by decide +kernel

theorem running_at_c000 (code : List Byte) : (start code).cpu.halt = false ∧ ¬ stoppedBy (start code) :=
  ⟨rfl, fun h => Bool.noConfusion h.1⟩

theorem witness_AStepRunsTheDecodedInstruction :
    (start [0x3E, 0x42]).cpu.halt = false ∧ ¬ stoppedBy (start [0x3E, 0x42]) ∧
    ∃ i rest t, decode (bytesAtPc (begun (start [0x3E, 0x42]))) = .ok (i, rest) ∧
      exec i { begun (start [0x3E, 0x42]) with
        cpu := { (start [0x3E, 0x42]).cpu with pc := (start [0x3E, 0x42]).cpu.pc + BitVec.ofNat 16 (3 - rest.length) } } =
          .next t :=
  ⟨rfl, (running_at_c000 _).2, .ldAD8 0x42, _, _, rfl, rfl⟩

/-- A state of the invariant that is not the reset state: one write and one register apart. -/
def busy : State := { start [0x04] with iflag := 0xE4, ie := 0x1F }

theorem busy_memWf : busy.MemWf := ⟨by decide, by decide, by decide, by decide, by decide, by decide, by decide⟩

theorem busy_inv : busy.Inv := by
  have h : busy.cart.ctype = .romOnly := by decide +kernel
  refine ⟨busy_memWf, ⟨by decide, by decide, by decide, by decide, by decide, by decide, by decide, by decide, by decide⟩, ?_⟩
  simp only [Cart.Inv, h]
  decide

theorem busy_steps : ∃ t, step busy = .next t := ⟨_, rfl⟩

theorem witness_EveryStepKeepsTheInvariant : busy.Inv ∧ ∃ t, step busy = .next t := ⟨busy_inv, busy_steps⟩

theorem witness_WhatEveryStepKeeps : ∃ s t, step s = .next t := ⟨busy, busy_steps⟩

theorem witness_OnlyTheNamedInstructionsChangeTheControlBits :
    (∃ t, exec .nop busy = .next t) ∧ Instr.nop ≠ .ei ∧ Instr.nop ≠ .di ∧ Instr.nop ≠ .reti ∧ Instr.nop ≠ .halt ∧
      ∀ n, Instr.nop ≠ .stop n := ⟨⟨_, rfl⟩, by decide, by decide, by decide, by decide, fun _ h => Instr.noConfusion h⟩

/-- Stopped, with every source pending and enabled. -/
def stoppedState : State := { withCpu (start [0x00]) fun c => { c with stop := true, ime := true } with iflag := 0xFF, ie := 0x1F }

theorem witness_TheInterruptCheck_stopped : stoppedBy stoppedState := ⟨rfl, rfl⟩

theorem witness_TheInterruptCheck_dispatch_lowest :
    ¬ stoppedBy (irq true 0x1F 0xFF) ∧ (irq true 0x1F 0xFF).cpu.ime = true ∧ pendingBit (irq true 0x1F 0xFF) 0 = true ∧
      ∀ j, j < 0 → pendingBit (irq true 0x1F 0xFF) j = false :=
  ⟨fun h => Bool.noConfusion h.1, rfl, by decide, fun _ h => absurd h (Nat.not_lt_zero _)⟩

theorem witness_TheInterruptCheck_dispatch_highest :
    ¬ stoppedBy (irq true 0x10 0xF0) ∧ (irq true 0x10 0xF0).cpu.ime = true ∧ pendingBit (irq true 0x10 0xF0) 4 = true ∧
      ∀ j, j < 4 → pendingBit (irq true 0x10 0xF0) j = false :=
  ⟨fun h => Bool.noConfusion h.1, rfl, by decide, by decide⟩

/-- Halted with IME = 0 and the timer pending and enabled. -/
def halted : State := { withCpu (start [0x00]) fun c => { c with halt := true } with iflag := 0xE4, ie := 0x04 }

theorem witness_TheInterruptCheck_wake :
    ¬ stoppedBy halted ∧ halted.cpu.ime = false ∧ halted.cpu.halt = true ∧ ∃ i, pendingBit halted i = true :=
  ⟨fun h => Bool.noConfusion h.1, rfl, rfl, 2, by decide⟩

theorem witness_TheInterruptCheck_nothing :
    ¬ stoppedBy (irq false 0x1F 0xFF) ∧ (irq false 0x1F 0xFF).cpu.ime = false ∧ (irq false 0x1F 0xFF).cpu.halt = false :=
  ⟨fun h => Bool.noConfusion h.1, rfl, rfl⟩

theorem witness_TheInterruptCheck_none_pending :
    ¬ stoppedBy (start [0x00]) ∧ ∀ i, pendingBit (start [0x00]) i = false := by
  refine ⟨(running_at_c000 _).2, fun i => ?_⟩
  have h : (start [0x00]).ie.getLsbD i = false := BitVec.getLsbD_zero
  rw [pendingBit, h, Bool.and_false]

theorem witness_TheStepOfEiDispatchesNothing :
    let s := { start [0xFB] with ie := 0x1F, iflag := 0xFF }
    s.par.eiDelay = true ∧ s.cpu.halt = false ∧ ¬ stoppedBy s ∧ s.cpu.ime = false ∧ (begun s).memRead s.cpu.pc = 0xFB :=
  ⟨rfl, rfl, fun h => Bool.noConfusion h.1, rfl, by decide +kernel⟩

theorem witness_StopHoldsUntilAButtonPress : stoppedBy stoppedState ∧ stoppedState.cpu.imePending = false :=
  ⟨⟨rfl, rfl⟩, rfl⟩

theorem witness_TheEndOfARunIsForGood :
    let s := { halted with ie := 0xE0 }
    s.cpu.halt = true ∧ s.ie &&& 0x1F = 0 ∧ s.cpu.imePending = false := ⟨rfl, rfl, rfl⟩

theorem witness_AWriteLeavesEveryOtherAddressAlone_ram : busy.MemWf ∧ ¬ touches busy 0xC000 0xC001 :=
  ⟨busy_memWf, fun h => absurd (show (0xC001 : Word) = 0xC000 from h) (by decide)⟩

theorem witness_AWriteLeavesEveryOtherAddressAlone_controller :
    ¬ touches busy 0x7FFF 0x3FFF ∧ ¬ touches busy 0x7FFF 0x8000 ∧ ¬ touches busy 0x0000 0x9FFF ∧ ¬ touches busy 0x0000 0xC000 := by
  have h1 : busy.owner 0x7FFF = .romX := by decide +kernel
  have h2 : busy.owner 0x0000 = .rom0 := by decide +kernel
  simp only [touches, h1, h2]
  decide

theorem witness_AWriteLeavesEveryOtherAddressAlone_devices :
    ¬ touches busy 0xA000 0xA001 ∧ ¬ touches busy 0xFF46 0xFDFF ∧ ¬ touches busy 0xFF46 0xFEA0 ∧ ¬ touches busy 0xFF44 0xFF44 ∧
      ¬ touches { busy with par := { colorMode := true } } 0xFF4F 0xA000 ∧
      ¬ touches { busy with par := { colorMode := true } } 0xFF68 0xFF6A := by
  have h1 : busy.owner 0xA000 = .ext := by decide +kernel
  have h2 : busy.owner 0xFF46 = .dma := by decide +kernel
  have h3 : busy.owner 0xFF44 = .ly := by decide +kernel
  have h4 : State.owner { busy with par := { colorMode := true } } 0xFF4F = .vbk := by decide +kernel
  have h5 : State.owner { busy with par := { colorMode := true } } 0xFF68 = .bcps := by decide +kernel
  have h6 : busy.cart.ctype ≠ .mbc2 := by decide +kernel
  simp only [touches, h1, h2, h3, h4, h5, if_neg h6]
  decide

theorem witness_EveryInstructionLeavesTheRestOfMemory :
    busy.MemWf ∧ (∃ t, exec .pushBc busy = .next t) ∧ ∀ a ∈ storeAddrs .pushBc busy, ¬ touches busy a 0xFFFA := by
  have h1 : busy.owner 0xFFFD = .ram := by decide +kernel
  have h2 : busy.owner 0xFFFC = .ram := by decide +kernel
  refine ⟨busy_memWf, ⟨_, rfl⟩, fun a ha => ?_⟩
  have e : storeAddrs .pushBc busy = [0xFFFD, 0xFFFC] := by decide +kernel
  rw [e] at ha
  obtain rfl | rfl : a = 0xFFFD ∨ a = 0xFFFC := by simpa using ha
  · simp only [touches, h1]; decide
  · simp only [touches, h2]; decide

theorem witness_EveryInstructionLeavesTheRestOfTheMachine :
    (∃ t, exec .addAB busy = .next t) ∧ storeAddrs .addAB busy = [] := ⟨⟨_, rfl⟩, rfl⟩

theorem witness_WhatAnAddressReadsAfterAWrite :
    busy.MemWf ∧ readBack busy 0xC000 0x55 = some 0x55 ∧ readBack busy 0xFF44 0x55 = some 0x00 ∧
      readBack busy 0xFF00 0x20 = some 0xEF ∧ State.owner { busy with par := { colorMode := true } } 0xFF69 = .bcpd :=
  ⟨busy_memWf, by decide +kernel, by decide +kernel, by decide +kernel, by decide +kernel⟩

theorem witness_OamDmaCopiesOneHundredAndSixtyBytes : 0 < 160 ∧ 159 < 160 ∧ (0xFE : Byte) = 0xFE ∧ (0xC0 : Byte) ≠ 0xFE := by decide

/-- Booting, with the first and the last byte of the overlay listed. -/
def bootState : State := { State.resetWith { bootRom := some [(0x00, 0x31), (0xFF, 0x50)] } blankRom with cpu := State.reset.cpu }

theorem witness_CartridgeWindowsAndDisabledRam_overlay :
    bootState.booting = true ∧ bootState.par.bootRom = some [(0x00, 0x31), (0xFF, 0x50)] ∧ (0x00FF : Word).toNat < 0x0100 ∧
      busy.booting = false := by decide

theorem witness_CartridgeWindowsAndDisabledRam_windows :
    (0x0100 ≤ (0x0100 : Word).toNat ∧ (0x3FFF : Word).toNat < 0x4000) ∧ (0x4000 ≤ (0x4000 : Word).toNat ∧ (0x7FFF : Word).toNat < 0x8000) ∧
      (0xA000 ≤ (0xA000 : Word).toNat ∧ (0xBFFF : Word).toNat < 0xC000) ∧ busy.cart.ramEnabled = false := by decide

theorem witness_Mbc1Registers :
    (banked 0x01).cart.ctype = .mbc1 ∧ (banked 0x01).cart.Inv ∧ (0x0000 : Word).toNat < 0x2000 ∧ (0x3FFF : Word).toNat < 0x4000 ∧
      (0x5FFF : Word).toNat < 0x6000 ∧ (0x7FFF : Word).toNat < 0x8000 := by
  have h : (banked 0x01).cart.ctype = .mbc1 := by decide +kernel
  refine ⟨h, ?_, by decide, by decide, by decide, by decide⟩
  simp only [Cart.Inv, h]
  decide

theorem witness_TheOtherControllersRegisters :
    busy.cart.ctype = .romOnly ∧ (banked 0x05).cart.ctype = .mbc2 ∧ (banked 0x10).cart.ctype = .mbc3 ∧
      (banked 0x19).cart.ctype = .mbc5 ∧ (0x7FFF : Word).toNat < 0x8000 := by decide +kernel

theorem witness_PushThenPopAndCallThenReturn :
    busy.MemWf ∧ busy.owner (busy.cpu.sp - 1) = .ram ∧ busy.owner (busy.cpu.sp - 2) = .ram :=
  ⟨busy_memWf, by decide +kernel, by decide +kernel⟩

theorem witness_DecimalAdjustIsDecimalArithmetic :
    0 < 100 ∧ 99 < 100 ∧ (withCpu busy (withAf 0x99 0x00)).cpu.a = bcd 99 ∧ (withCpu busy (withAf 0x00 0xF0)).cpu.a = bcd 0 := by
  decide

theorem witness_TimerUpdateIsTheSpecsLoops : busy.timer.divCounter + 24 ≤ 24 ∧ busy.timer.timaCounter + 24 ≤ 24 := by decide

theorem witness_ThePpuAdvancesThroughItsFrame_on :
    let s := { busy with ppu := { busy.ppu with ly := 153, dot := 455 } }
    s.ppu.lcdc.getLsbD 7 = true ∧ s.ppu.ly.toNat < 154 ∧ s.ppu.dot < 456 ∧ 0 < 1 := by decide

theorem witness_ThePpuAdvancesThroughItsFrame_off :
    ({ busy with ppu := { busy.ppu with lcdc := 0x11 } } : State).ppu.lcdc.getLsbD 7 = false := by decide

theorem witness_PpuInterruptEdges :
    (busy.ppu.ly.toNat < 154 ∧ busy.ppu.dot < 456) ∧
      ({ busy.ppu with ly := 153, dot := 455 } : Ppu).ly.toNat < 154 ∧ ({ busy.ppu with ly := 153, dot := 455 } : Ppu).dot < 456 := by
  decide

theorem witness_ARenderedLineWithoutSprites :
    0 < 144 ∧ 143 < 144 ∧ 0 < 160 ∧ 159 < 160 ∧ (screen 0x91 oneTile []).lcdc.getLsbD 1 = false := by decide

theorem witness_TheLowestOamIndexWins :
    0 < 144 ∧ 143 < 144 ∧ 0 < 160 ∧ 159 < 160 ∧ (screen 0x93 oneTile []).lcdc.getLsbD 1 = true := by decide

theorem witness_ATickRendersOnEnteringHblank_enters :
    let s := { busy with ppu := { busy.ppu with stat := 0x87, ly := 143, dot := 251 } }
    s.ppu.ly.toNat < 144 ∧ s.ppu.dot < 456 ∧ 159 < 160 ∧ 252 ≤ s.ppu.dot + 1 ∧ s.ppu.dot + 1 < 456 ∧ s.ppu.stat.toNat % 4 ≠ 0 ∧
      143 = s.ppu.ly.toNat := by decide

theorem witness_ATickRendersOnEnteringHblank_end_of_line :
    let s := { busy with ppu := { busy.ppu with stat := 0x87, ly := 143, dot := 455 } }
    s.ppu.ly.toNat < 154 ∧ s.ppu.dot < 456 ∧ ¬ s.ppu.dot + 1 < 456 := by decide

theorem witness_ATickRendersOnEnteringHblank_vblank :
    let s := { busy with ppu := { busy.ppu with stat := 0x83, ly := 153, dot := 300 } }
    s.ppu.ly.toNat < 154 ∧ s.ppu.dot < 456 ∧ ¬ s.ppu.ly.toNat < 144 := by decide

theorem witness_WhatResetLeaves :
    ({} : Params).bootRom = none ∧ ({ colorMode := true } : Params).bootRom = none ∧ ({ colorMode := true } : Params).colorMode = true := by
  decide

theorem witness_WhatResetLeaves_plain :
    plainIo false 0xFF01 ∧ plainIo false 0xFF7F ∧ plainIo false 0xFF4F ∧ plainIo true 0xFF10 ∧ plainIo true 0xFF6A := by
  simp [plainIo]

end Sys2Proof.Tests
end

section

namespace Sys2Proof.Machine

/-! ### The invariant and the parts of the state it reads -/

/-- The invariant reads F, the cartridge, the PPU, the timer, `mem` and the high bits of IF, and nothing else. -/
theorem State.Inv.congr {s t : State} (h : s.Inv) (hf : t.cpu.f = s.cpu.f ∨ t.cpu.f &&& 0x0F = 0) (hcart : t.cart = s.cart)
    (hppu : t.ppu = s.ppu) (htimer : t.timer = s.timer) (hmem : t.mem = s.mem) (hif : t.iflag &&& 0xE0 = 0xE0) : t.Inv := by
  obtain ⟨⟨m, v0, v1, o, bp, x, fb⟩, ⟨f, ly, dot, rb, -, st, bc, dc, tc⟩, hc⟩ := h
  have hf' : t.cpu.f &&& 0x0F = 0 := hf.elim (fun e => e ▸ f) id
  refine ⟨?_, ?_, hcart ▸ hc⟩
  · exact ⟨hmem ▸ m, hppu ▸ v0, hppu ▸ v1, hppu ▸ o, hppu ▸ bp, hcart ▸ x, hppu ▸ fb⟩
  · exact ⟨hf', hppu ▸ ly, hppu ▸ dot, hcart ▸ rb, hif, hppu ▸ st, hppu ▸ bc, htimer ▸ dc, htimer ▸ tc⟩

theorem State.Inv.withCpu {s : State} (h : s.Inv) (c : Cpu) (hf : c.f = s.cpu.f ∨ c.f &&& 0x0F = 0) :
    State.Inv { s with cpu := c } :=
  h.congr hf rfl rfl rfl rfl h.registers.iflag

theorem State.Inv.setPc {s : State} (h : s.Inv) (v : Word) : (s.setPc v).Inv := h.withCpu _ (.inl rfl)

theorem State.Inv.setSp {s : State} (h : s.Inv) (v : Word) : (s.setSp v).Inv := h.withCpu _ (.inl rfl)

theorem State.Inv.withCycles {s : State} (h : s.Inv) (n : Nat) : (s.withCycles n).Inv :=
  h.congr (.inl rfl) rfl rfl rfl rfl h.registers.iflag

theorem State.Inv.addDiag {s : State} (h : s.Inv) (e : DiagEvent) : (s.addDiag e).Inv :=
  h.congr (.inl rfl) rfl rfl rfl rfl h.registers.iflag

/-! ### The controller's registers under a write below 0x8000 (20_memory.md R100 to R116) -/

theorem State.selectRomBank_cart (s : State) (a : Word) (v : Byte) (k : Bool) (b : BitVec 9) :
    (s.selectRomBank a v k b).cart = { s.cart with romBank := if b = 0 then 1 else b } := by
  obtain ⟨d, h⟩ := s.selectRomBank_eq a v k b
  rw [h]

/-- An MBC1 bank put together from a field in bits 6-5 and a field in bits 4-0 that is not 0. -/
theorem mbc1Bank_or {hi lo : BitVec 9} (hhi : hi.toNat < 128) (hhi' : hi.toNat % 32 = 0) (hlo : lo.toNat < 32)
    (hlo' : lo.toNat ≠ 0) : (hi ||| lo).toNat < 128 ∧ (hi ||| lo).toNat % 32 ≠ 0 := by
  rw [BitVec.toNat_or]
  refine ⟨Nat.or_lt_two_pow (n := 7) hhi (by omega), ?_⟩
  have hmod : (hi.toNat ||| lo.toNat) % 2 ^ 5 = hi.toNat % 2 ^ 5 ||| lo.toNat % 2 ^ 5 := Nat.or_mod_two_pow
  change (hi.toNat ||| lo.toNat) % 2 ^ 5 ≠ 0
  rw [hmod, show hi.toNat % 2 ^ 5 = 0 from hhi', Nat.mod_eq_of_lt (show lo.toNat < 2 ^ 5 from hlo), Nat.zero_or]
  exact hlo'

/-- The bank an MBC1 low-bits write selects (20_memory.md R102). -/
theorem mbc1Bank_low (r : BitVec 9) (v : Byte) :
    ((r &&& (0x60 : BitVec 9)) ||| coerceField (v &&& 0x1F)).toNat < 128 ∧
      ((r &&& (0x60 : BitVec 9)) ||| coerceField (v &&& 0x1F)).toNat % 32 ≠ 0 := by
  have hi : ∀ r : BitVec 9, (r &&& (0x60 : BitVec 9)).toNat < 128 ∧ (r &&& (0x60 : BitVec 9)).toNat % 32 = 0 := by decide
  have lo : ∀ v : Byte, (coerceField (v &&& 0x1F)).toNat < 32 ∧ (coerceField (v &&& 0x1F)).toNat ≠ 0 := by decide
  exact mbc1Bank_or (hi r).1 (hi r).2 (lo v).1 (lo v).2

/-- The bank an MBC1 high-bits write selects keeps the low five bits (20_memory.md R103). -/
theorem mbc1Bank_high (r : BitVec 9) (v : Byte) (h : r.toNat % 32 ≠ 0) :
    ((r &&& (0x1F : BitVec 9)) ||| ((v &&& 0x03).setWidth 9 <<< 5)).toNat < 128 ∧
      ((r &&& (0x1F : BitVec 9)) ||| ((v &&& 0x03).setWidth 9 <<< 5)).toNat % 32 ≠ 0 := by
  have hi : ∀ v : Byte, ((v &&& 0x03).setWidth 9 <<< 5).toNat < 128 ∧ ((v &&& 0x03).setWidth 9 <<< 5).toNat % 32 = 0 := by
    decide
  have lo : (r &&& (0x1F : BitVec 9)).toNat = r.toNat % 32 := by
    rw [BitVec.toNat_and]; exact Nat.and_two_pow_sub_one_eq_mod _ 5
  rw [BitVec.or_comm]
  exact mbc1Bank_or (hi v).1 (hi v).2 (by rw [lo]; exact Nat.mod_lt _ (by decide)) (by rw [lo]; exact h)

theorem State.mbc1Write_inv {s : State} (a : Word) (v : Byte) (hk : s.cart.ctype = .mbc1) (h : s.cart.Inv) :
    (s.mbc1Write a v).cart.Inv := by
  simp only [Cart.Inv, hk] at h
  obtain ⟨hlt, hlow, hram, hmode, hrtc, hsel⟩ := h
  have select (k : Bool) (b : BitVec 9) (hb : b.toNat < 128 ∧ b.toNat % 32 ≠ 0) : (s.selectRomBank a v k b).cart.Inv := by
    have hne : b ≠ 0 := by rintro rfl; exact hb.2 rfl
    rw [State.selectRomBank_cart, if_neg hne]
    simp only [Cart.Inv, hk]
    exact ⟨hb.1, hb.2, hram, hmode, hrtc, hsel⟩
  have low2 : ∀ w : Byte, ((w &&& 0x03).setWidth 4).toNat < 4 := by decide
  unfold State.mbc1Write
  simp only
  split_ifs with h1 h2 h3 hm hb
  · simp only [Cart.Inv, hk]
    exact ⟨hlt, hlow, hram, hmode, hrtc, hsel⟩
  · exact select _ _ (mbc1Bank_low _ v)
  · simp only [Cart.Inv, hk]
    exact ⟨hlt, hlow, low2 v, by simp [hm], hrtc, hsel⟩
  · exact select _ _ (mbc1Bank_high _ v hlow)
  · simp only [Cart.Inv, hk, hb]
    exact ⟨hlt, hlow, hram, by simp, hrtc, hsel⟩
  · simp only [Cart.Inv, hk]
    exact ⟨hlt, hlow, by decide, fun _ => trivial, hrtc, hsel⟩

theorem State.mbc2Write_inv {s : State} (a : Word) (v : Byte) (hk : s.cart.ctype = .mbc2) (h : s.cart.Inv) :
    (s.mbc2Write a v).cart.Inv := by
  have bank : ∀ w : Byte, (coerceField (w &&& 0x0F)).toNat < 16 ∧ coerceField (w &&& 0x0F) ≠ 0 := by decide
  have hcase := h
  simp only [Cart.Inv, hk] at hcase
  obtain ⟨hlt, hne, hrest⟩ := hcase
  unfold State.mbc2Write
  simp only
  split_ifs
  · simp only [Cart.Inv, State.selectRomBank_cart, hk, if_neg (bank v).2]
    exact ⟨(bank v).1, (bank v).2, hrest⟩
  · simp only [Cart.Inv, hk]
    exact ⟨hlt, hne, hrest⟩
  · exact h

theorem State.mbc3Write_inv {s : State} (a : Word) (v : Byte) (hk : s.cart.ctype = .mbc3) (h : s.cart.Inv) :
    (s.mbc3Write a v).cart.Inv := by
  have bank : ∀ w : Byte, (coerceField (w &&& 0x7F)).toNat < 128 ∧ coerceField (w &&& 0x7F) ≠ 0 := by decide
  have hcase := h
  simp only [Cart.Inv, hk] at hcase
  obtain ⟨hlt, hne, hram, hmode, hrtc⟩ := hcase
  unfold State.mbc3Write
  simp only
  split_ifs with h1 h2 h3 hv
  · simp only [Cart.Inv, hk]
    exact ⟨hlt, hne, hram, hmode, trivial⟩
  · simp only [Cart.Inv, State.selectRomBank_cart, hk, if_neg (bank v).2]
    exact ⟨(bank v).1, (bank v).2, hram, hmode, hrtc⟩
  · simp only [Cart.Inv, hk]
    have : (v.setWidth 4).toNat < 8 := by rw [BitVec.toNat_setWidth]; omega
    exact ⟨hlt, hne, this, hmode, hrtc⟩
  · split
    · simp only [Cart.Inv, hk]
      exact ⟨hlt, hne, hram, hmode, hrtc⟩
    · exact h
  · exact h

theorem State.mbc5Write_inv {s : State} (a : Word) (v : Byte) (hk : s.cart.ctype = .mbc5) (h : s.cart.Inv) :
    (s.mbc5Write a v).cart.Inv := by
  have hcase := h
  simp only [Cart.Inv, hk] at hcase
  obtain ⟨hne, hrest⟩ := hcase
  have select (k : Bool) (b : BitVec 9) : (s.selectRomBank a v k b).cart.Inv := by
    have hb := s.selectRomBank_ne a v k b
    rw [State.selectRomBank_cart] at hb ⊢
    simp only [Cart.Inv, hk]
    exact ⟨hb, hrest⟩
  unfold State.mbc5Write
  simp only
  split_ifs
  · simp only [Cart.Inv, hk]
    exact ⟨hne, hrest⟩
  · exact select _ _
  · exact select _ _
  · simp only [Cart.Inv, hk]
    exact ⟨hne, hrest⟩
  · exact h

theorem State.controllerWrite_inv {s : State} (a : Word) (v : Byte) (h : s.cart.Inv) : (s.controllerWrite a v).cart.Inv := by
  unfold State.controllerWrite
  split
  next => exact h
  next hk => exact State.mbc1Write_inv a v hk h
  next hk => exact State.mbc2Write_inv a v hk h
  next hk => exact State.mbc3Write_inv a v hk h
  next hk => exact State.mbc5Write_inv a v hk h

theorem extWrite_inv {c : Cart} (a : Nat) (v : Byte) (h : c.Inv) : (extWrite c a v).Inv := h.congr (extWrite_eq c a v)

/-- What a write through the router does to the cartridge, by the address's owner (20_memory.md R86). -/
theorem State.memWrite_cart (s : State) (a : Word) (v : Byte) :
    (s.memWrite a v).cart = s.cart ∨ (s.memWrite a v).cart = (s.controllerWrite a v).cart ∨
      (s.memWrite a v).cart = extWrite s.cart a.toNat v := by
  unfold State.memWrite
  split
  case h_1 => exact .inr (.inl rfl)
  case h_2 => exact .inr (.inl rfl)
  case h_3 => exact .inr (.inl rfl)
  case h_4 => unfold State.setVram; split <;> exact .inl rfl
  case h_5 => exact .inr (.inr rfl)
  case h_20 =>
    obtain ⟨m, e⟩ := s.dmaWrite_eq v
    rw [e]
    exact .inl rfl
  all_goals exact .inl rfl

theorem State.memWrite_cartInv {s : State} (a : Word) (v : Byte) (h : s.cart.Inv) : (s.memWrite a v).cart.Inv := by
  obtain e | e | e := s.memWrite_cart a v <;> rw [e]
  · exact h
  · exact State.controllerWrite_inv a v h
  · exact extWrite_inv _ v h

/-! ### The pieces of a step -/

theorem State.Inv.memWrite {s : State} (h : s.Inv) (a : Word) (v : Byte) : (s.memWrite a v).Inv :=
  ⟨State.memWrite_memWf a v h.memories, State.memWrite_regWf a v h.registers, State.memWrite_cartInv a v h.controller⟩

theorem State.Inv.push16 {s : State} (h : s.Inv) (v : Word) : (s.push16 v).Inv :=
  (((h.setSp _).memWrite _ _).setSp _).memWrite _ _

/-- Each of the five kinds of change an instruction is made of keeps the invariant. -/
theorem Effect.inv {s t : State} (e : Effect s t) (h : s.Inv) : t.Inv := by
  induction e with
  | start => exact h
  | cycles n _ ih => exact ih.withCycles n
  | cpu c hf _ ih => exact ih.withCpu c hf
  | store a v _ ih => exact ih.memWrite a v
  | illegal op a _ ih => exact ih.addDiag _

theorem exec_inv {i : Instr} {s t : State} (h : s.Inv) (he : exec i s = .next t) : t.Inv := (exec_effect i he).inv h

theorem State.Inv.beginStep {s : State} (h : s.Inv) : s.beginStep.Inv := by
  unfold State.beginStep
  split
  · exact h.congr (.inl rfl) rfl rfl rfl rfl h.registers.iflag
  · exact h

/-- A fetch moves PC and changes nothing else. -/
theorem State.fetch_setPc {s u : State} {i : Instr} (h : s.fetch = .ok (i, u)) : ∃ v, u = s.setPc v := by
  unfold State.fetch at h
  split at h
  · cases h
    exact ⟨_, rfl⟩
  · cases h

theorem State.Inv.devicesUpdate {s : State} (h : s.Inv) (c : Nat) : (s.devicesUpdate c).Inv :=
  ⟨State.timerUpdate_memWf c (State.ppuUpdate_memWf c h.memories),
    State.timerUpdate_regWf c (State.ppuUpdate_regWf c h.registers),
    by simpa [State.devicesUpdate] using h.controller⟩

theorem State.Inv.takeInterrupt {s : State} (h : s.Inv) {i : Nat} (hi : i < 5) : (s.takeInterrupt i).Inv := by
  have clear : State.Inv
      { s with
        cpu := { s.cpu with ime := false, imePending := false, halt := false }, iflag := withoutBit s.iflag i } :=
    h.congr (.inl rfl) rfl rfl rfl rfl (withoutBit_high _ _ hi h.registers.iflag)
  exact (clear.push16 _).setPc _

theorem State.Inv.handleInterrupts {s : State} (h : s.Inv) : s.handleInterrupts.1.Inv := by
  unfold State.handleInterrupts
  split_ifs
  · exact h
  · exact h.takeInterrupt (lowestBit_lt _)
  · exact h.withCpu _ (.inl rfl)
  · exact h

theorem State.Inv.promoteIme {s : State} (h : s.Inv) : s.promoteIme.Inv := by
  unfold State.promoteIme
  split
  · exact h.withCpu _ (.inl rfl)
  · exact h

theorem State.Inv.finishStep {s : State} (h : s.Inv) : s.finishStep.Inv := by
  have check := (h.devicesUpdate s.stepCycles).handleInterrupts
  have devices (r : State × Nat) (hr : r.1.Inv) : (if 0 < r.2 then r.1.devicesUpdate r.2 else r.1).Inv := by
    split
    · exact hr.devicesUpdate _
    · exact hr
  have ime := (devices _ check).promoteIme
  exact ime.congr (.inl rfl) rfl rfl rfl rfl ime.registers.iflag

/-- Settles O35: by what a step can be, the idle step or an instruction, each followed by the devices and the interrupt check. -/
theorem everyStepKeepsTheInvariant : Obligations.EveryStepKeepsTheInvariant := by
  unfold Obligations.EveryStepKeepsTheInvariant
  intro s t h hstep
  obtain ⟨-, rfl⟩ | ⟨-, i, u, v, hfetch, hexec, rfl⟩ := step_cases hstep
  · exact (h.beginStep.withCycles _).finishStep
  · obtain ⟨pc, rfl⟩ := State.fetch_setPc hfetch
    exact (exec_inv (h.beginStep.setPc pc) hexec).finishStep

end Sys2Proof.Machine
end

section

namespace Sys2Proof.Machine

/-! ### The control bits (10_state.md R35 to R37) -/

/-- IME, `ime_pending`, `halt` and `stop`. -/
def State.control (s : State) : Bool × Bool × Bool × Bool := (s.cpu.ime, s.cpu.imePending, s.cpu.halt, s.cpu.stop)

theorem State.control_eq_iff {s t : State} :
    t.control = s.control ↔
      t.cpu.ime = s.cpu.ime ∧ t.cpu.imePending = s.cpu.imePending ∧ t.cpu.halt = s.cpu.halt ∧ t.cpu.stop = s.cpu.stop := by
  simp only [State.control, Prod.mk.injEq]

theorem State.control_congr {s t : State} (h : t.cpu = s.cpu) : t.control = s.control := by rw [State.control, h]; rfl

/-! The control bits under the named updates. -/

@[simp] theorem State.withCycles_control (s : State) (n : Nat) : (s.withCycles n).control = s.control := rfl
@[simp] theorem State.setPc_control (s : State) (v : Word) : (s.setPc v).control = s.control := rfl
@[simp] theorem State.setSp_control (s : State) (v : Word) : (s.setSp v).control = s.control := rfl
@[simp] theorem State.dropTop_control (s : State) : s.dropTop.control = s.control := rfl
@[simp] theorem State.setFlags_control (s : State) (z n h c : Bool) : (s.setFlags z n h c).control = s.control := rfl
@[simp] theorem State.addDiag_control (s : State) (e : DiagEvent) : (s.addDiag e).control = s.control := rfl

@[simp] theorem State.setReg_control (s : State) (r : Reg8) (v : Byte) : (s.setReg r v).control = s.control := by
  simp [State.control]

@[simp] theorem State.setPair_control (s : State) (p : R16) (v : Word) : (s.setPair p v).control = s.control := by
  simp [State.control]

@[simp] theorem State.setStackPair_control (s : State) (p : R16Stk) (v : Word) : (s.setStackPair p v).control = s.control := by
  simp [State.control]

@[simp] theorem State.memWrite_control (s : State) (a : Word) (v : Byte) : (s.memWrite a v).control = s.control :=
  State.control_congr (s.memWrite_cpu a v)

@[simp] theorem State.writeR8_control (s : State) (x : R8) (v : Byte) : (s.writeR8 x v).control = s.control := by
  cases x <;> simp [State.writeR8]

@[simp] theorem State.alu_control (s : State) (o : AluOp) (b : Byte) : (s.alu o b).control = s.control := by
  cases o <;> simp [State.alu, State.setAcc]

@[simp] theorem State.push16_control (s : State) (v : Word) : (s.push16 v).control = s.control := by simp [State.push16]

/-! The control bits under the shared operations of the instructions. -/

@[simp] theorem State.loadA_control (s : State) (a : Word) (n : Nat) : (s.loadA a n).control = s.control := by simp [State.loadA]
@[simp] theorem State.storeA_control (s : State) (a : Word) (n : Nat) : (s.storeA a n).control = s.control := by simp [State.storeA]
@[simp] theorem State.loadAStep_control (s : State) (d : Word) : (s.loadAStep d).control = s.control := by simp [State.loadAStep]
@[simp] theorem State.storeAStep_control (s : State) (d : Word) : (s.storeAStep d).control = s.control := by
  simp [State.storeAStep]
@[simp] theorem State.rotA_control (s : State) (o : RotOp) : (s.rotA o).control = s.control := by simp [State.rotA]
@[simp] theorem State.rotR8_control (s : State) (o : RotOp) (x : R8) : (s.rotR8 o x).control = s.control := by simp [State.rotR8]
@[simp] theorem State.bitR8_control (s : State) (b : Fin 8) (x : R8) : (s.bitR8 b x).control = s.control := by simp [State.bitR8]
@[simp] theorem State.resR8_control (s : State) (b : Fin 8) (x : R8) : (s.resR8 b x).control = s.control := by simp [State.resR8]
@[simp] theorem State.setR8_control (s : State) (b : Fin 8) (x : R8) : (s.setR8 b x).control = s.control := by simp [State.setR8]

@[simp] theorem State.cbByte_control (s : State) (cb : Byte) : (s.cbByte cb).control = s.control := by
  unfold State.cbByte
  split <;> simp

@[simp] theorem State.jump_control (s : State) (a : Word) : (s.jump a).control = s.control := rfl
@[simp] theorem State.jumpRel_control (s : State) (e : Byte) : (s.jumpRel e).control = s.control := rfl
@[simp] theorem State.ret_control (s : State) (n : Nat) : (s.ret n).control = s.control := rfl
@[simp] theorem State.call_control (s : State) (a : Word) (n : Nat) : (s.call a n).control = s.control := by simp [State.call]

/-! The control bits under an instruction. -/

/-- Whatever state the instruction runs in, it keeps the control bits. -/
def KeepsControl (i : Instr) : Prop := ∀ s t, exec i s = .next t → t.control = s.control

theorem KeepsControl.intro {i : Instr} {f : State → State} (he : ∀ s, exec i s = .next (f s))
    (hf : ∀ s, (f s).control = s.control) : KeepsControl i := by
  intro s t h
  rw [he] at h
  cases h
  exact hf s

/-- Every instruction but five keeps all four control bits. -/
theorem keepsControl_or (i : Instr) :
    KeepsControl i ∨ i = .ei ∨ i = .di ∨ i = .reti ∨ i = .halt ∨ ∃ n, i = .stop n := by
  cases i using Instr.byFamily
  case ei => exact .inr (.inl rfl)
  case di => exact .inr (.inr (.inl rfl))
  case reti => exact .inr (.inr (.inr (.inl rfl)))
  case halt => exact .inr (.inr (.inr (.inr (.inl rfl))))
  case stop n => exact .inr (.inr (.inr (.inr (.inr ⟨n, rfl⟩))))
  all_goals left
  case ldReg rd rs => exact .intro (exec_ldReg rd rs) (by simp [State.copyReg])
  case ldRegHl rd => exact .intro (exec_ldRegHl rd) (by simp [State.loadReg])
  case ldHlReg rs => exact .intro (exec_ldHlReg rs) (by simp [State.storeReg])
  case ldImm8 x n => exact .intro (exec_ldImm8 x n) (by simp [State.loadImm])
  case ldPair p n => exact .intro (exec_ldPair p n) (by simp [State.loadPair])
  case push p => exact .intro (exec_push p) (by simp [State.pushPair])
  case pop p => exact .intro (exec_pop p) (by simp [State.popPair])
  case alu o x => exact .intro (exec_alu o x) (by simp [State.aluR8])
  case aluImm o n => exact .intro (exec_aluImm o n) (by simp [State.aluImm])
  case inc x => exact .intro (exec_inc x) (by simp [State.incR8])
  case dec x => exact .intro (exec_dec x) (by simp [State.decR8])
  case addHl p => exact .intro (exec_addHl p) (by simp [State.addHl])
  case incPair p => exact .intro (exec_incPair p) (by simp [State.incPair])
  case decPair p => exact .intro (exec_decPair p) (by simp [State.decPair])
  case jrCc cc e => exact .intro (exec_jrCc cc e) (fun s => by unfold State.jumpRelCc; split <;> simp)
  case jpCc cc a => exact .intro (exec_jpCc cc a) (fun s => by unfold State.jumpCc; split <;> simp)
  case callCc cc a => exact .intro (exec_callCc cc a) (fun s => by unfold State.callCc; split <;> simp)
  case retCc cc => exact .intro (exec_retCc cc) (fun s => by unfold State.retCc; split <;> simp)
  case rst y => exact .intro (exec_rst y) (by simp)
  case rot o x => exact .intro (exec_rot o x) (by simp)
  case bit b x => exact .intro (exec_bit b x) (by simp)
  case res b x => exact .intro (exec_res b x) (by simp)
  case set b x => exact .intro (exec_set b x) (by simp)
  case illegal p hp => exact .intro (exec_illegal hp) (by simp [State.illegal])
  case ldIndA16Sp a => exact .intro (fun _ => rfl) (by simp [State.storeSp, State.memWrite16])
  case addSpE8 e => exact .intro (fun _ => rfl) (by simp [State.addSp])
  case ldHlSpE8 e => exact .intro (fun _ => rfl) (by simp [State.loadHlSp])
  case ldSpHl => exact .intro (fun _ => rfl) (by simp [State.loadSpHl])
  case jpHl => exact .intro (fun _ => rfl) (by simp [State.jumpHl])
  case nop => exact .intro (fun _ => rfl) (by simp [State.nop])
  case daa => exact .intro (fun _ => rfl) (by simp [State.daa])
  case cpl => exact .intro (fun _ => rfl) (by simp [State.cpl])
  case scf => exact .intro (fun _ => rfl) (by simp [State.scf])
  case ccf => exact .intro (fun _ => rfl) (by simp [State.ccf])
  all_goals exact .intro (fun _ => rfl) (by simp)

/-- Settles O38: only the five instructions remain, and each of them leaves the other bits alone. -/
theorem onlyTheNamedInstructionsChangeTheControlBits : Obligations.OnlyTheNamedInstructionsChangeTheControlBits := by
  unfold Obligations.OnlyTheNamedInstructionsChangeTheControlBits
  intro i s t h
  obtain hk | rfl | rfl | rfl | rfl | ⟨n, rfl⟩ := keepsControl_or i
  · obtain ⟨hime, hpending, hhalt, hstop⟩ := State.control_eq_iff.1 (hk s t h)
    exact ⟨fun _ _ _ => ⟨hime, hpending⟩, fun _ => hhalt, fun _ => hstop⟩
  · cases h
    refine ⟨fun hne => absurd rfl hne, fun _ => ?_, fun _ => ?_⟩ <;> unfold State.enableInts <;> split <;> rfl
  · cases h
    exact ⟨fun _ hne => absurd rfl hne, fun _ => rfl, fun _ => rfl⟩
  · cases h
    exact ⟨fun _ _ hne => absurd rfl hne, fun _ => rfl, fun _ => rfl⟩
  · cases h
    exact ⟨fun _ _ _ => ⟨rfl, rfl⟩, fun hne => absurd rfl hne, fun _ => rfl⟩
  · cases h
    exact ⟨fun _ _ _ => ⟨rfl, rfl⟩, fun _ => rfl, fun hne => absurd rfl (hne n)⟩

end Sys2Proof.Machine
end

section

namespace Sys2Proof.Machine

/-! ### Reset (10_state.md R42 to R53) -/

theorem State.resetWith_memWf (p : Params) (rom : Rom) : (State.resetWith p rom).MemWf := ⟨rfl, rfl, rfl, rfl, rfl, rfl, rfl⟩

/-- F has its low nibble clear with a boot ROM too, where it is a draw (10_state.md R33, R53). -/
theorem Cpu.reset_flags (p : Params) : (Cpu.reset p).f &&& 0x0F = 0 := by
  unfold Cpu.reset
  split
  · show (0xB0 : Byte) &&& 0x0F = 0
    decide
  · exact maskF_low _

theorem State.resetWith_regWf (p : Params) (rom : Rom) : (State.resetWith p rom).RegWf := by
  have ppu : Ppu.reset.ly.toNat < 154 ∧ Ppu.reset.dot < 456 ∧ bitOf Ppu.reset.stat 7 = true ∧ bitOf Ppu.reset.bcps 6 = false := by
    decide
  have timer : Timer.reset.divCounter < 256 ∧ Timer.reset.timaCounter < 1024 := by decide
  obtain ⟨ly, dot, stat, bcps⟩ := ppu
  have bank : (1 : BitVec 9) ≠ 0 := by decide
  have iflag : (0xE1 : Byte) &&& 0xE0 = 0xE0 := by decide
  exact ⟨Cpu.reset_flags p, ly, dot, bank, iflag, stat, bcps, timer.1, timer.2⟩

theorem Cart.reset_inv (rom : Rom) : (Cart.reset rom).Inv := by
  simp only [Cart.Inv, Cart.reset]
  cases cartType rom <;> decide

theorem State.resetWith_inv (p : Params) (rom : Rom) : (State.resetWith p rom).Inv :=
  ⟨State.resetWith_memWf p rom, State.resetWith_regWf p rom, Cart.reset_inv rom⟩

/-- Settles O36: part by part, from the reset values of each. -/
theorem theInvariantHoldsAtReset : Obligations.TheInvariantHoldsAtReset :=
  ⟨State.resetWith_inv {} blankRom, State.resetWith_inv⟩

theorem ioOwner_plain {k : Bool} {n : Nat} (h : Claims.plainIo k n) : ioOwner k n = .ram := by
  obtain ⟨-, -, hlow, hppu, hcolor⟩ := h
  simp only [List.mem_cons, List.not_mem_nil, or_false, not_or] at hlow hcolor
  obtain ⟨h0, h4, h5, h6, h7, hF⟩ := hlow
  unfold ioOwner
  rw [if_neg h0, if_neg h4, if_neg h5, if_neg h6, if_neg h7, if_neg hF, if_neg (by omega), if_neg (by omega), if_neg (by omega),
    if_neg (by omega), if_neg (by omega), if_neg (by omega), if_neg (by omega), if_neg (by omega), if_neg (by omega),
    if_neg (by omega), if_neg (by omega), if_neg (by omega), if_neg fun h => (hcolor h.1).1 h.2,
    if_neg fun h => (hcolor h.1).2.1 h.2, if_neg fun h => (hcolor h.1).2.2 h.2]

/-- A plain I/O address is plain RAM (20_memory.md R84). -/
theorem State.owner_plain {s : State} {a : Word} (h : Claims.plainIo s.par.colorMode a.toNat) : s.owner a = .ram := by
  have ⟨hlo, hhi, _⟩ := h
  unfold State.owner route
  simp only
  rw [if_neg (by omega), if_neg (by omega), if_neg (by omega), if_neg (by omega), if_neg (by omega), if_neg (by omega),
    if_neg (by omega), if_neg (by omega), if_pos hhi]
  exact ioOwner_plain h

theorem ioReset_eq_resetByte {n : Nat} (hlo : 0xFF00 ≤ n) (hhi : n < 0xFF80) : ioReset n = Claims.resetByte n := by
  have key : ∀ k : Fin 128, ioReset (0xFF00 + k) = Claims.resetByte (0xFF00 + k) := by decide
  have := key ⟨n - 0xFF00, by omega⟩
  rwa [show 0xFF00 + (n - 0xFF00) = n by omega] at this

theorem cartTypeOf?_eq_lookup (v : Byte) : cartTypeOf? v = Claims.kinds.lookup v := by
  revert v
  decide

theorem Cpu.reset_of_noBoot {p : Params} (h : p.bootRom = none) :
    Cpu.reset p = { a := if p.colorMode then 0x11 else 0x01, f := 0xB0, b := 0x00, c := 0x13, d := 0x00, e := 0xD8, h := 0x01,
                    l := 0x4D, sp := 0xFFFE, pc := 0x0100, ime := false, imePending := false, halt := false, stop := false } := by
  rw [Cpu.reset, h]

/-- A plain I/O address reads its published byte at reset: `mem` lists nothing there (10_state.md R49). -/
theorem State.resetWith_memRead_plain (p : Params) (rom : Rom) {a : Word} (h : Claims.plainIo p.colorMode a.toNat) :
    (State.resetWith p rom).memRead a = Claims.resetByte a.toNat := by
  have howner : (State.resetWith p rom).owner a = .ram := State.owner_plain h
  obtain ⟨hlo, hhi, -⟩ := h
  have hdflt : memDefault a.toNat = some (ioReset a.toNat) := if_pos ⟨hlo, by omega⟩
  calc (State.resetWith p rom).memRead a
      = (State.resetWith p rom).ramByte a.toNat := by rw [State.memRead, howner]
    _ = ioReset a.toNat := by rw [State.ramByte, hdflt]; rfl
    _ = Claims.resetByte a.toNat := ioReset_eq_resetByte hlo hhi

/-- VBK and BCPS have an owner of their own in colour mode only (20_memory.md R85). -/
theorem State.resetWith_memRead_color {p : Params} (rom : Rom) (h : p.colorMode = true) :
    (State.resetWith p rom).memRead 0xFF4F = 0xFE ∧ (State.resetWith p rom).memRead 0xFF68 = 0x40 := by
  have vbk : (State.resetWith p rom).owner 0xFF4F = .vbk := by
    show ioOwner p.colorMode 0xFF4F = .vbk
    rw [h]; rfl
  have bcps : (State.resetWith p rom).owner 0xFF68 = .bcps := by
    show ioOwner p.colorMode 0xFF68 = .bcps
    rw [h]; rfl
  constructor
  · rw [State.memRead, vbk]
    show (0xFE : Byte) ||| byteOfBool false = 0xFE
    decide
  · rw [State.memRead, bcps]
    show (0x00 : Byte) ||| 0x40 = 0x40
    decide

theorem State.resetWith_memRead_tac (p : Params) (rom : Rom) : (State.resetWith p rom).memRead 0xFF07 = 0xF8 := by
  have tac : (State.resetWith p rom).owner 0xFF07 = .tac := rfl
  rw [State.memRead, tac]
  show (0xF8 : Byte) ||| (0 : BitVec 3).setWidth 8 = 0xF8
  decide

theorem State.resetWith_diag (p : Params) (rom : Rom) :
    (State.resetWith p rom).diag =
      if (Claims.kinds.lookup (rom.read 0x147)).isSome then [] else [.unsupportedCartridge (rom.read 0x147)] := by
  rw [State.resetWith, cartTypeOf?_eq_lookup]
  cases Claims.kinds.lookup (rom.read 0x147) <;> rfl

/-- Settles O60: the registers are read off the definition of each device's reset; the kind, the diagnostics and the reads are the
lemmas above. -/
theorem whatResetLeaves : Obligations.WhatResetLeaves := by
  unfold Obligations.WhatResetLeaves
  intro p rom hboot s
  have booting : s.booting = false := by
    show p.bootRom.isSome = false
    rw [hboot]; rfl
  have kind : s.cart.ctype = (Claims.kinds.lookup (rom.read 0x147)).getD .romOnly := by
    rw [← cartTypeOf?_eq_lookup]; rfl
  refine ⟨Cpu.reset_of_noBoot hboot, rfl, rfl, booting, rfl, rfl, ?_⟩
  -- the PPU
  refine ⟨rfl, rfl, rfl, rfl, rfl, rfl, rfl, rfl, rfl, rfl, rfl, rfl, rfl, rfl, rfl, ?_⟩
  -- the timer and the joypad
  refine ⟨rfl, rfl, rfl, rfl, rfl, rfl, rfl, rfl, rfl, ?_⟩
  -- the controller
  refine ⟨rfl, rfl, rfl, rfl, rfl, rfl, rfl, rfl, kind, State.resetWith_diag p rom, ?_⟩
  exact ⟨State.resetWith_memRead_tac p rom, State.resetWith_memRead_color rom, fun _ => State.resetWith_memRead_plain p rom⟩

end Sys2Proof.Machine
end

section

namespace Sys2Proof.Machine

/-! ### What a read depends on, and what a write leaves alone (20_memory.md R85, R86) -/

/-- s and t agree on the fields that a read routed to the owner takes its byte from. -/
def State.AgreeOn (s t : State) : Owner → Prop
  | .boot => t.par = s.par
  | .rom0 => t.cart.rom = s.cart.rom
  | .romX => (t.cart.rom, t.cart.ctype, t.cart.romBank) = (s.cart.rom, s.cart.ctype, s.cart.romBank)
  | .vram => (t.ppu.vbk, t.ppu.vram0, t.ppu.vram1) = (s.ppu.vbk, s.ppu.vram0, s.ppu.vram1)
  | .ext => t.cart = s.cart
  | .ram => t.mem = s.mem
  | .oam => t.ppu.oam = s.ppu.oam
  | .joyp => t.joy = s.joy
  | .div => t.timer.div = s.timer.div
  | .tima => t.timer.tima = s.timer.tima
  | .tma => t.timer.tma = s.timer.tma
  | .tac => t.timer.tac = s.timer.tac
  | .iflag => t.iflag = s.iflag
  | .lcdc => t.ppu.lcdc = s.ppu.lcdc
  | .stat => t.ppu.stat = s.ppu.stat
  | .scy => t.ppu.scy = s.ppu.scy
  | .scx => t.ppu.scx = s.ppu.scx
  | .ly => t.ppu.ly = s.ppu.ly
  | .lyc => t.ppu.lyc = s.ppu.lyc
  | .dma => t.ppu.dma = s.ppu.dma
  | .bgp => t.ppu.bgp = s.ppu.bgp
  | .obp0 => t.ppu.obp0 = s.ppu.obp0
  | .obp1 => t.ppu.obp1 = s.ppu.obp1
  | .wy => t.ppu.wy = s.ppu.wy
  | .wx => t.ppu.wx = s.ppu.wx
  | .vbk => t.ppu.vbk = s.ppu.vbk
  | .bcps => t.ppu.bcps = s.ppu.bcps
  | .bcpd => (t.ppu.bcps, t.ppu.bgPal) = (s.ppu.bcps, s.ppu.bgPal)
  | .ie => t.ie = s.ie

theorem State.memRead_congr {s t : State} {b : Word} (hpar : t.par = s.par) (hboot : t.booting = s.booting)
    (hcycles : t.totalCycles = s.totalCycles) (h : s.AgreeOn t (s.owner b)) : t.memRead b = s.memRead b := by
  unfold State.memRead
  rw [State.owner_congr hboot hpar b]
  cases hb : s.owner b <;> rw [hb] at h <;> simp only [State.AgreeOn, Prod.mk.injEq] at h ⊢
  case romX =>
    obtain ⟨hrom, hctype, hbank⟩ := h
    have heff : effRomBank t.cart = effRomBank s.cart := by rw [effRomBank, effRomBank, hctype, hbank]
    simp only [cartReadX, windowOffset, hrom, heff]
  case vram =>
    obtain ⟨hvbk, h0, h1⟩ := h
    have hbank : t.vramBank = s.vramBank := by rw [State.vramBank, State.vramBank, hpar, hvbk]
    simp only [Ppu.vram0Byte, Ppu.vram1Byte, hbank, h0, h1]
  case bcpd =>
    obtain ⟨hbcps, hpal⟩ := h
    simp only [Ppu.palByte, hbcps, hpal]
  all_goals simp only [State.bootByte, cartRead0, State.ramByte, Ppu.oamByte, h, hcycles]

/-- The owners whose reads a write to an owner may change: the controller's registers move the two banked windows, DMA fills OAM, VBK
moves VRAM, BCPS and BCPD share the palette index, and a write to LY is ignored. -/
def Owner.disturbed : Owner → List Owner
  | .boot | .rom0 | .romX => [.romX, .ext]
  | .dma => [.dma, .oam]
  | .vbk => [.vbk, .vram]
  | .bcps | .bcpd => [.bcps, .bcpd]
  | .ly => []
  | o => [o]

theorem State.controllerWrite_agreeOn (s : State) (a : Word) (v : Byte) {o : Owner} (hwindow : o ≠ .romX) (hext : o ≠ .ext) :
    s.AgreeOn (s.controllerWrite a v) o := by
  obtain ⟨c, d, e, hrom, -⟩ := s.controllerWrite_eq a v
  rw [e]
  cases o
  case rom0 => exact hrom
  case romX => exact absurd rfl hwindow
  case ext => exact absurd rfl hext
  all_goals exact rfl

@[simp] theorem State.setVram_vramBank (s : State) (n : Nat) (v : Byte) : (s.setVram n v).vramBank = s.vramBank := by
  unfold State.setVram
  split <;> rfl

theorem State.setVram_agreeOn (s : State) (n : Nat) (v : Byte) {o : Owner} (h : o ≠ .vram) : s.AgreeOn (s.setVram n v) o := by
  unfold State.setVram
  split
  all_goals
    cases o
    case vram => exact absurd rfl h
    all_goals exact rfl

theorem State.memWrite_agreeOn (s : State) (a : Word) (v : Byte) {o : Owner} (h : o ∉ (s.owner a).disturbed) :
    s.AgreeOn (s.memWrite a v) o := by
  unfold State.memWrite
  cases ha : s.owner a <;> rw [ha] at h <;>
    simp only [Owner.disturbed, List.mem_cons, List.not_mem_nil, or_false, not_or] at h ⊢
  case boot | rom0 | romX => exact s.controllerWrite_agreeOn a v h.1 h.2
  case vram => exact s.setVram_agreeOn _ v h
  case ext =>
    rw [extWrite_eq]
    cases o <;> try exact rfl
    exact absurd rfl h
  case dma =>
    obtain ⟨m, e⟩ := s.dmaWrite_eq v
    rw [e]
    cases o <;> try exact rfl
    · exact absurd rfl h.2
    · exact absurd rfl h.1
  case vbk =>
    cases o <;> try exact rfl
    · exact absurd rfl h.2
    · exact absurd rfl h.1
  case bcps | bcpd =>
    cases o <;> try exact rfl
    · exact absurd rfl h.1
    · exact absurd rfl h.2
  case ly => cases o <;> exact rfl
  all_goals
    cases o <;> try exact rfl
    exact absurd rfl h

/-- A write leaves every read whose owner its own owner does not disturb. -/
theorem State.memRead_memWrite_of_not_disturbed {s : State} {a b : Word} (v : Byte) (h : s.owner b ∉ (s.owner a).disturbed) :
    (s.memWrite a v).memRead b = s.memRead b :=
  State.memRead_congr (by simp) (by simp) (by simp) (s.memWrite_agreeOn a v h)

/-! ### Two addresses of one owner -/

/-- No two addresses are the same register's. -/
theorem State.eq_of_owner_eq {s : State} {a b : Word} {m : Nat} (ha : (s.owner a).regAddr = some m) (hb : s.owner b = s.owner a) :
    b = a := by
  apply BitVec.eq_of_toNat_eq
  rw [State.addr_of_owner ha, State.addr_of_owner (hb ▸ ha)]

/-- A byte with no known default reads as written, the others as before. -/
theorem Mem.getD_write_none (m : Mem) (a b : Nat) (v d : Byte) :
    ((m.write none a v).get? b).getD d = if b = a then v else (m.get? b).getD d := by
  rw [Mem.get?_write_none]
  split <;> rfl

theorem State.memRead_memWrite_vram {s : State} {a b : Word} (v : Byte) (ha : s.owner a = .vram) (hb : s.owner b = .vram) :
    (s.memWrite a v).memRead b = if b = a then v else s.memRead b := by
  have hsame : b.toNat - 0x8000 = a.toNat - 0x8000 ↔ b = a := by
    have := State.vram_of_owner ha
    have := State.vram_of_owner hb
    rw [← BitVec.toNat_inj]; omega
  rw [State.memRead, State.memWrite_owner, State.memRead, hb, State.memWrite, ha]
  simp only [State.setVram_vramBank]
  unfold State.setVram
  cases hbank : s.vramBank
  · simp only [Bool.false_eq_true, if_false, Ppu.vram0Byte, Mem.getD_write_none, hsame]
  · simp only [if_true, Ppu.vram1Byte, Mem.getD_write_none, hsame]

theorem State.memRead_memWrite_oam {s : State} {a b : Word} (v : Byte) (ha : s.owner a = .oam) (hb : s.owner b = .oam) :
    (s.memWrite a v).memRead b = if b = a then v else s.memRead b := by
  have hsame : b.toNat - 0xFE00 = a.toNat - 0xFE00 ↔ b = a := by
    have := State.oam_of_owner ha
    have := State.oam_of_owner hb
    rw [← BitVec.toNat_inj]; omega
  rw [State.memRead, State.memWrite_owner, State.memRead, hb, State.memWrite, ha]
  simp only [State.setOam, Ppu.oamByte, Mem.getD_write_none, hsame]

theorem State.memRead_memWrite_ram {s : State} {a b : Word} (v : Byte) (hw : Mem.wf 0x10000 memDefault s.mem = true)
    (ha : s.owner a = .ram) (hb : s.owner b = .ram) :
    (s.memWrite a v).memRead b = if b = a then v else s.memRead b := by
  rw [State.memRead, State.memWrite_owner, State.memRead, hb, State.memWrite, ha]
  simp only [State.setRam, State.ramByte]
  by_cases h : b = a
  · subst h
    rw [Mem.get?_write_same _ _ _ _ _ hw, if_pos rfl]
    split
    next hdflt => rw [hdflt]; rfl
    next => rfl
  · rw [Mem.get?_write_ne _ _ _ _ _ _ _ hw (fun e => h (BitVec.eq_of_toNat_eq e)), if_neg h]

/-! ### External RAM (20_memory.md R93, R94, R108, R114) -/

theorem extRead_disabled {c : Cart} (h : c.ramEnabled = false) (now a : Nat) : extRead c now a = 0xFF := by
  rw [extRead, h]; rfl

theorem extWrite_disabled {c : Cart} (h : c.ramEnabled = false) (a : Nat) (v : Byte) : extWrite c a v = c := by
  rw [extWrite, h]; rfl

/-- The controller after a byte of `ext_ram` is stored. -/
def Cart.setExt (c : Cart) (o : Nat) (v : Byte) : Cart := { c with extRam := c.extRam.write none o v }

theorem extByte_setExt (c : Cart) (o p : Nat) (v : Byte) : extByte (c.setExt o v) p = if p = o then v else extByte c p :=
  Mem.getD_write_none ..

/-- The window shows the bank of `ext_ram` that `ram_bank` selects: MBC1 and MBC5, and MBC3 while no clock register is selected. -/
def Cart.ShowsRamBank (c : Cart) : Prop := c.ctype = .mbc1 ∨ c.ctype = .mbc5 ∨ (c.ctype = .mbc3 ∧ c.rtcSelect = none)

theorem extRead_ramBank (c : Cart) (hen : c.ramEnabled = true) (h : c.ShowsRamBank) (now a : Nat) :
    extRead c now a = extByte c (extOffset c a) := by
  obtain hk | hk | ⟨hk, hsel⟩ := h
  · rw [extRead, hen, hk]; rfl
  · rw [extRead, hen, hk]; rfl
  · rw [extRead, hen, hk, hsel]; rfl

theorem extWrite_ramBank {c : Cart} (hen : c.ramEnabled = true) (h : c.ShowsRamBank) (a : Nat) (v : Byte) :
    extWrite c a v = c.setExt (extOffset c a) v := by
  obtain hk | hk | ⟨hk, hsel⟩ := h
  · simp [extWrite, Cart.setExt, hen, hk]
  · simp [extWrite, Cart.setExt, hen, hk]
  · simp [extWrite, Cart.setExt, hen, hk, hsel]

/-- A write in the window of a RAM bank changes the read of its own address only. -/
theorem extRead_extWrite_ramBank {c : Cart} (hen : c.ramEnabled = true) (h : c.ShowsRamBank) {a b : Nat} (ha : 0xA000 ≤ a)
    (hb : 0xA000 ≤ b) (v : Byte) (now : Nat) : extRead (extWrite c a v) now b = if b = a then v else extRead c now b := by
  have hoff : extOffset c b = extOffset c a ↔ b = a := by unfold extOffset; omega
  calc extRead (extWrite c a v) now b
      = extRead (c.setExt (extOffset c a) v) now b := by rw [extWrite_ramBank hen h]
    _ = extByte (c.setExt (extOffset c a) v) (extOffset c b) := extRead_ramBank (c.setExt (extOffset c a) v) hen h now b
    _ = if b = a then v else extRead c now b := by simp only [extByte_setExt, hoff, extRead_ramBank c hen h]

/-- A write to MBC2's nibbles changes the reads of the copies of its address only (R108). -/
theorem extRead_extWrite_mbc2 {c : Cart} (hen : c.ramEnabled = true) (hk : c.ctype = .mbc2) {a b : Nat} (ha : 0xA000 ≤ a)
    (hb : 0xA000 ≤ b) (v : Byte) (now : Nat) :
    extRead (extWrite c a v) now b = if b % 512 = a % 512 then v ||| 0xF0 else extRead c now b := by
  have hoff : mbc2Offset b = mbc2Offset a ↔ b % 512 = a % 512 := by unfold mbc2Offset; omega
  have nibble : ∀ v : Byte, 0xF0 ||| ((v &&& 0x0F) &&& 0x0F) = v ||| 0xF0 := by decide
  have hread (d : Cart) (hen : d.ramEnabled = true) (hk : d.ctype = .mbc2) :
      extRead d now b = 0xF0 ||| (extByte d (mbc2Offset b) &&& 0x0F) := by rw [extRead, hen, hk]; rfl
  have hwrite : extWrite c a v = c.setExt (mbc2Offset a) (v &&& 0x0F) := by simp [extWrite, Cart.setExt, hen, hk]
  rw [hwrite, hread (c.setExt _ _) hen hk, hread c hen hk, extByte_setExt]
  simp only [hoff]
  split
  · exact nibble v
  · rfl

/-- A write to a window that shows no RAM changes no read of the window. -/
theorem extRead_extWrite_noRam {c : Cart} (h : c.ramEnabled = false ∨ c.ctype = .romOnly ∨ (c.ctype = .mbc3 ∧ c.rtcSelect.isSome))
    (a b : Nat) (v : Byte) (now : Nat) : extRead (extWrite c a v) now b = extRead c now b := by
  cases hen : c.ramEnabled
  case false => rw [extWrite_disabled hen]
  obtain h | hk | ⟨hk, hsel⟩ := h
  · rw [h] at hen; cases hen
  · simp [extWrite, hen, hk]
  · obtain ⟨r, hsel⟩ := Option.isSome_iff_exists.1 hsel
    cases hclock : c.rtcEnabled <;> simp [extRead, extWrite, hen, hk, hsel, hclock]

/-- What the window shows: nothing that can be written, a RAM bank, or MBC2's nibbles. -/
theorem Cart.window_cases (c : Cart) :
    (c.ramEnabled = false ∨ c.ctype = .romOnly ∨ (c.ctype = .mbc3 ∧ c.rtcSelect.isSome)) ∨
      (c.ramEnabled = true ∧ c.ShowsRamBank) ∨ (c.ramEnabled = true ∧ c.ctype = .mbc2) := by
  unfold Cart.ShowsRamBank
  cases c.ramEnabled <;> cases c.ctype <;> cases c.rtcSelect <;> simp

theorem State.memRead_memWrite_ext {s : State} {a b : Word} (v : Byte) (ha : s.owner a = .ext) (hb : s.owner b = .ext) :
    (s.memWrite a v).memRead b = extRead (extWrite s.cart a.toNat v) s.totalCycles b.toNat := by
  rw [State.memRead, State.memWrite_owner, hb, State.memWrite, ha]

theorem State.memRead_memWrite_ext_ne {s : State} {a b : Word} (v : Byte) (ha : s.owner a = .ext) (hb : s.owner b = .ext)
    (h : if s.cart.ctype = .mbc2 then b.toNat % 512 ≠ a.toNat % 512 else b ≠ a) : (s.memWrite a v).memRead b = s.memRead b := by
  have hread : s.memRead b = extRead s.cart s.totalCycles b.toNat := by rw [State.memRead, hb]
  rw [State.memRead_memWrite_ext v ha hb, hread]
  have hloa := (State.ext_of_owner ha).1
  have hlob := (State.ext_of_owner hb).1
  obtain hno | ⟨hen, hbank⟩ | ⟨hen, hk⟩ := s.cart.window_cases
  · exact extRead_extWrite_noRam hno _ _ v _
  · have hk : s.cart.ctype ≠ .mbc2 := by obtain hk | hk | ⟨hk, -⟩ := hbank <;> rw [hk] <;> decide
    rw [if_neg hk] at h
    rw [extRead_extWrite_ramBank hen hbank hloa hlob, if_neg fun e => h (BitVec.eq_of_toNat_eq e)]
  · rw [if_pos hk] at h
    rw [extRead_extWrite_mbc2 hen hk hloa hlob, if_neg h]

/-- Settles O43: the reads of an owner that the written one does not disturb are kept; within the disturbed owners the addresses that
`touches` does not name are told apart by their offsets or do not exist. -/
theorem aWriteLeavesEveryOtherAddressAlone : Obligations.AWriteLeavesEveryOtherAddressAlone := by
  unfold Obligations.AWriteLeavesEveryOtherAddressAlone
  intro s a b v hwf htouch
  by_cases hb : s.owner b ∉ (s.owner a).disturbed
  · exact State.memRead_memWrite_of_not_disturbed v hb
  rw [not_not] at hb
  obtain ⟨-, -, hromX, hvram, hext, hoam, -⟩ := s.range_of_owner b
  unfold Claims.touches at htouch
  cases ha : s.owner a <;> rw [ha] at hb <;>
    simp only [Owner.disturbed, ha, List.mem_cons, List.not_mem_nil, or_false] at hb htouch
  case vram => rw [State.memRead_memWrite_vram v ha hb, if_neg htouch]
  case ram => rw [State.memRead_memWrite_ram v hwf.mem ha hb, if_neg htouch]
  case oam => rw [State.memRead_memWrite_oam v ha hb, if_neg htouch]
  case ext =>
    refine State.memRead_memWrite_ext_ne v ha hb ?_
    split_ifs at htouch ⊢ with hk
    · exact fun e => htouch ⟨(hext hb).1, (hext hb).2, e⟩
    · exact htouch
  case boot | rom0 | romX => exact absurd (hb.imp hromX hext) htouch
  case dma => exact absurd (hb.imp (fun e => State.eq_of_owner_eq (by rw [ha]; rfl) (e.trans ha.symm)) hoam) htouch
  case vbk => exact absurd (hb.imp (fun e => State.eq_of_owner_eq (by rw [ha]; rfl) (e.trans ha.symm)) hvram) htouch
  case bcps | bcpd =>
    have haddr {m : Nat} (hreg : (s.owner b).regAddr = some m) : b = BitVec.ofNat 16 m := by
      rw [← State.addr_of_owner hreg, BitVec.ofNat_toNat, BitVec.setWidth_eq]
    exact absurd (hb.imp (fun e => haddr (by rw [e]; rfl)) (fun e => haddr (by rw [e]; rfl))) htouch
  all_goals exact absurd (State.eq_of_owner_eq (by rw [ha]; rfl) (hb.trans ha.symm)) htouch

end Sys2Proof.Machine
end

section

namespace Sys2Proof.Machine

/-! ### Reading back what was written (20_memory.md R86, R93, R94, R108, R122; 60_exceptions.md R431, R435, R436, R440 to R444) -/

/-- A read of an address of external RAM right after a write to it (R93, R94, R108, R114). -/
theorem State.memRead_memWrite_ext_same {s : State} {a : Word} {v r : Byte} (ha : s.owner a = .ext)
    (h : Claims.readBack s a v = some r) : (s.memWrite a v).memRead a = r := by
  have hlo := (State.ext_of_owner ha).1
  rw [Claims.readBack, ha] at h
  simp only at h
  rw [State.memRead_memWrite_ext v ha ha]
  obtain hno | ⟨hen, hbank⟩ | ⟨hen, hk⟩ := s.cart.window_cases
  · rw [extRead_extWrite_noRam hno]
    cases hen : s.cart.ramEnabled
    case false => simpa [extRead_disabled hen, hen] using h
    obtain hdis | hk | ⟨hk, hsel⟩ := hno
    · rw [hdis] at hen; cases hen
    · simpa [extRead, hen, hk] using h
    · obtain ⟨reg, hsel⟩ := Option.isSome_iff_exists.1 hsel
      have hclock : s.cart.rtcEnabled = false := by
        cases ht : s.cart.rtcEnabled
        case false => rfl
        simp [hen, hk, hsel, ht] at h
      simpa [extRead, hen, hk, hsel, hclock] using h
  · rw [extRead_extWrite_ramBank hen hbank hlo hlo, if_pos rfl]
    obtain hk | hk | ⟨hk, hsel⟩ := hbank
    · simpa [hen, hk] using h
    · simpa [hen, hk] using h
    · simpa [hen, hk, hsel] using h
  · rw [extRead_extWrite_mbc2 hen hk hlo hlo, if_pos rfl]
    simpa [hen, hk] using h

/-- The joypad register after a write of v: the latch takes bits 5-4, each clear bit of it shows its half of the keys (R435, R436). -/
theorem Joypad.read_withLatch (j : Joypad) (v : Byte) :
    Joypad.read { j with latch := (v >>> 4).setWidth 2 } =
      0xC0 ||| (v &&& 0x30) |||
        ((if v.getLsbD 4 then 0xF else j.dirMask) &&& (if v.getLsbD 5 then 0xF else j.btnMask)).setWidth 8 := by
  have latch : ∀ v : Byte, ((v >>> 4).setWidth 2).setWidth 8 <<< 4 = v &&& 0x30 := by decide
  have dirs : ∀ v : Byte, ((v >>> 4).setWidth 2).getLsbD 0 = v.getLsbD 4 := by decide
  have btns : ∀ v : Byte, ((v >>> 4).setWidth 2).getLsbD 1 = v.getLsbD 5 := by decide
  simp only [Joypad.read, latch, dirs, btns]

theorem State.memRead_memWrite_same {s : State} {a : Word} {v r : Byte} (hwf : s.MemWf) (h : Claims.readBack s a v = some r) :
    (s.memWrite a v).memRead a = r := by
  cases ha : s.owner a
  case ext => exact State.memRead_memWrite_ext_same ha h
  all_goals
    rw [Claims.readBack, ha] at h
    simp only [Option.some.injEq, reduceCtorEq] at h
  case boot | rom0 =>
    rw [State.memRead_memWrite_of_not_disturbed v (by rw [ha]; decide)]
    exact h
  case vram => rw [State.memRead_memWrite_vram v ha ha, if_pos rfl, h]
  case oam => rw [State.memRead_memWrite_oam v ha ha, if_pos rfl, h]
  case ram => rw [State.memRead_memWrite_ram v hwf.mem ha ha, if_pos rfl, h]
  all_goals
    rw [State.memRead, State.memWrite_owner, ha, State.memWrite, ha, ← h]
  case joyp => exact s.joy.read_withLatch v
  case dma =>
    obtain ⟨m, e⟩ := s.dmaWrite_eq v
    rw [e]
  case tac => 
    have bits : ∀ v : Byte, 0xF8 ||| (v.setWidth 3).setWidth 8 = v ||| 0xF8 := by decide
    exact bits v
  case iflag =>
    have bits : ∀ v : Byte, (v &&& 0x1F) ||| 0xE0 = v ||| 0xE0 := by decide
    exact bits v
  case stat => simp only [← BitVec.or_assoc, BitVec.or_self]
  case vbk =>
    have bits : ∀ v : Byte, 0xFE ||| byteOfBool (bitOf v 0) = v ||| 0xFE := by decide
    exact bits v
  case bcps =>
    have bits : ∀ v : Byte, (v &&& 0xBF) ||| 0x40 = v ||| 0x40 := by decide
    exact bits v

/-- A BCPD write stores the palette byte that BCPS names, and moves the index when BCPS bit 7 is set (R444). -/
theorem State.bcpdWrite_effect (s : State) (v : Byte) :
    (s.bcpdWrite v).ppu.palByte (s.ppu.bcps.toNat % 64) = v ∧
      (s.bcpdWrite v).ppu.bcps =
        if s.ppu.bcps.toNat / 128 = 1 then Claims.byte (128 + (s.ppu.bcps.toNat + 1) % 64) else s.ppu.bcps := by
  have index (x : Byte) : (x &&& 0x3F).toNat = x.toNat % 64 := by
    rw [BitVec.toNat_and]; exact Nat.and_two_pow_sub_one_eq_mod _ 6
  have next : ∀ x : Byte, (if bitOf x 7 then (x &&& 0x80) ||| ((x + 1) &&& 0x3F) else x) =
      if x.toNat / 128 = 1 then Claims.byte (128 + (x.toNat + 1) % 64) else x := by decide
  refine ⟨?_, next _⟩
  rw [← index]
  exact (Mem.getD_write_none ..).trans (if_pos rfl)

/-- Settles O46: owner by owner, from what the write stores and what a read makes of it. -/
theorem whatAnAddressReadsAfterAWrite : Obligations.WhatAnAddressReadsAfterAWrite := by
  unfold Obligations.WhatAnAddressReadsAfterAWrite
  intro s a v
  refine ⟨fun r hwf h => State.memRead_memWrite_same hwf h, fun ha => ?_⟩
  have hwrite : s.memWrite a v = s.bcpdWrite v := by rw [State.memWrite, ha]
  rw [hwrite]
  exact s.bcpdWrite_effect v

/-! ### OAM DMA (20_memory.md R120, R121) -/

/-- The byte that a DMA from a page reads for OAM's byte i. -/
theorem dmaSource_toNat (page : Byte) {i : Nat} (h : i < 160) :
    (word16 page 0 + BitVec.ofNat 16 i).toNat = page.toNat * 256 + i := by
  have hp := page.isLt
  have hzero : (0 : Byte).toNat = 0 := rfl
  rw [BitVec.toNat_add, word16_toNat, BitVec.toNat_ofNat, hzero]
  omega

theorem dmaSource_eq (page : Byte) {i : Nat} (h : i < 160) :
    word16 page 0 + BitVec.ofNat 16 i = BitVec.ofNat 16 (page.toNat * 256 + i) := by
  rw [← dmaSource_toNat page h, BitVec.ofNat_toNat, BitVec.setWidth_eq]

theorem Ppu.oamByte_setOam (s : State) (n j : Nat) (v : Byte) :
    (s.setOam n v).ppu.oamByte j = if j = n then v else s.ppu.oamByte j := Mem.getD_write_none ..

theorem State.memRead_of_oam {s : State} {b : Word} (h : s.owner b = .oam) : s.memRead b = s.ppu.oamByte (b.toNat - 0xFE00) := by
  rw [State.memRead, h]

theorem State.memRead_oam {s : State} {i : Nat} (h : i < 160) :
    s.memRead (BitVec.ofNat 16 (0xFE00 + i)) = s.ppu.oamByte i := by
  have haddr : (BitVec.ofNat 16 (0xFE00 + i)).toNat = 0xFE00 + i := by rw [BitVec.toNat_ofNat]; omega
  rw [State.memRead_of_oam (s.owner_oam (by omega) (by omega)), haddr, Nat.add_sub_cancel_left]

/-- A store to OAM changes no read but that of its own address. -/
theorem State.memRead_setOam {s : State} {b : Word} {n : Nat} (v : Byte) (h : s.owner b = .oam → b.toNat - 0xFE00 ≠ n) :
    (s.setOam n v).memRead b = s.memRead b := by
  cases hb : s.owner b
  case oam =>
    rw [State.memRead_of_oam (s := s.setOam n v) hb, State.memRead_of_oam hb, Ppu.oamByte_setOam, if_neg (h hb)]
  all_goals
    refine State.memRead_congr rfl rfl rfl ?_
    rw [hb]
    exact rfl

/-- A copy into OAM takes each byte from its source as it was before the copy: a source in OAM is the byte itself. -/
theorem State.dmaFrom_oamByte (page : Byte) (i k : Nat) (s : State) (hk : i + k ≤ 160) {j : Nat} (hj : j < 160) :
    (State.dmaFrom page i k s).ppu.oamByte j =
      if i ≤ j ∧ j < i + k then s.memRead (word16 page 0 + BitVec.ofNat 16 j) else s.ppu.oamByte j := by
  induction k generalizing i s with
  | zero => rw [if_neg (by omega)]; rfl
  | succ k ih =>
    rw [State.dmaFrom, ih (i + 1) _ (by omega), Ppu.oamByte_setOam]
    by_cases hij : j = i
    · subst hij
      rw [if_neg (by omega), if_pos rfl, if_pos (by omega)]
    · rw [if_neg hij]
      have hsource : (s.setOam i (s.memRead (word16 page 0 + BitVec.ofNat 16 i))).memRead (word16 page 0 + BitVec.ofNat 16 j) =
          s.memRead (word16 page 0 + BitVec.ofNat 16 j) := by
        refine State.memRead_setOam _ fun hoam => ?_
        have hrange := State.oam_of_owner hoam
        rw [dmaSource_toNat page hj] at hrange ⊢
        have := page.isLt
        omega
      rw [hsource]
      by_cases hin : i ≤ j ∧ j < i + (k + 1)
      · rw [if_pos hin, if_pos (by omega)]
      · rw [if_neg hin, if_neg (by omega)]

theorem State.owner_dma (s : State) : s.owner 0xFF46 = .dma := rfl

/-- Settles O47: the copy changes only the register and OAM, and each byte is its source's byte, which for v = 0xFE is OAM's own. -/
theorem oamDmaCopiesOneHundredAndSixtyBytes : Obligations.OamDmaCopiesOneHundredAndSixtyBytes := by
  unfold Obligations.OamDmaCopiesOneHundredAndSixtyBytes
  intro s v
  have hwrite : s.memWrite 0xFF46 v = s.dmaWrite v := by rw [State.memWrite, s.owner_dma]
  rw [hwrite]
  refine ⟨s.dmaWrite_eq v, fun i hi => ?_⟩
  have hbyte : (s.dmaWrite v).ppu.oamByte i =
      State.memRead { s with ppu := { s.ppu with dma := v } } (BitVec.ofNat 16 (v.toNat * 256 + i)) := by
    rw [← dmaSource_eq v hi, State.dmaWrite, State.dmaFrom_oamByte v 0 160 _ (by omega) hi, if_pos (by omega)]
  rw [State.memRead_oam hi, hbyte]
  split
  next hv =>
    subst hv
    exact (State.memRead_oam hi).trans (State.memRead_oam (s := s) hi).symm
  next => rfl

end Sys2Proof.Machine
end

section

namespace Sys2Proof.Machine

/-! ### The cartridge's windows (20_memory.md R85, R87, R89, R91 to R93) -/

theorem State.owner_boot {s : State} {a : Word} (hboot : s.booting = true) (h : a.toNat < 0x0100) : s.owner a = .boot := by
  unfold State.owner route
  simp only
  rw [if_pos h, if_pos hboot]

theorem State.owner_rom0 {s : State} {a : Word} (h : a.toNat < 0x4000) (hboot : s.booting = false ∨ 0x0100 ≤ a.toNat) :
    s.owner a = .rom0 := by
  unfold State.owner route
  simp only
  by_cases hlow : a.toNat < 0x0100
  · rw [if_pos hlow, if_neg (by rw [hboot.resolve_right (by omega)]; decide)]
  · rw [if_neg hlow, if_pos h]

theorem State.owner_romX (s : State) {a : Word} (h : 0x4000 ≤ a.toNat) (h' : a.toNat < 0x8000) : s.owner a = .romX := by
  unfold State.owner route
  simp only
  rw [if_neg (by omega), if_neg (by omega), if_pos h']

theorem State.owner_ext (s : State) {a : Word} (h : 0xA000 ≤ a.toNat) (h' : a.toNat < 0xC000) : s.owner a = .ext := by
  unfold State.owner route
  simp only
  rw [if_neg (by omega), if_neg (by omega), if_neg (by omega), if_neg (by omega), if_pos h']

theorem effRomBank_eq (c : Cart) : effRomBank c = if c.ctype = .romOnly then 1 else c.romBank.toNat := by
  unfold effRomBank
  cases c.ctype <;> rfl

/-- Settles O48: range by range, through the owner of the address. -/
theorem cartridgeWindowsAndDisabledRam : Obligations.CartridgeWindowsAndDisabledRam := by
  unfold Obligations.CartridgeWindowsAndDisabledRam
  intro s a v banks b b' at'
  refine ⟨fun boot hboot hrom h => ?_, fun hboot h => ?_, fun h h' => ?_, fun h h' => ?_, fun h h' hdis => ?_⟩
  · rw [State.memRead, State.owner_boot hboot h]
    simp only [State.bootByte, hrom, Option.getD_some]
  · rw [State.memRead, State.owner_rom0 (by omega) (.inl hboot)]
    rfl
  · rw [State.memRead, State.owner_rom0 h' (.inr h)]
    rfl
  · have hoffset : windowOffset s.cart a.toNat = a.toNat - 0x4000 + b' * 0x4000 := by
      simp only [windowOffset, effRomBank_eq]
      rfl
    rw [State.memRead, s.owner_romX h h']
    simp only [cartReadX, hoffset]
    rfl
  · rw [State.memRead, State.memWrite, s.owner_ext h h']
    simp only [extRead_disabled hdis, extWrite_disabled hdis, and_self]

end Sys2Proof.Machine
end

section

namespace Sys2Proof.Machine

/-! ### The controllers' registers, in arithmetic (20_memory.md R100 to R117) -/

theorem State.memWrite_controller (s : State) {a : Word} (v : Byte) (h : a.toNat < 0x8000) :
    s.memWrite a v = s.controllerWrite a v := by
  by_cases hX : 0x4000 ≤ a.toNat
  · rw [State.memWrite, s.owner_romX hX h]
  · by_cases hboot : s.booting = true ∧ a.toNat < 0x0100
    · rw [State.memWrite, State.owner_boot hboot.1 hboot.2]
    · have h0 : s.booting = false ∨ 0x0100 ≤ a.toNat := by
        cases hb : s.booting
        · exact .inl rfl
        · exact .inr (by by_contra hlt; exact hboot ⟨hb, by omega⟩)
      rw [State.memWrite, State.owner_rom0 (by omega) h0]

theorem enables_eq (v : Byte) : enables v = Claims.lowNibbleA v := by
  revert v
  decide

/-- A bank select in the claims' terms: bank 0 becomes 1, and the diagnostic says so (R116, R117). -/
theorem State.selectRomBank_eq_bankSelected (s : State) (a : Word) (v : Byte) (coerced : Bool) (b : BitVec 9) :
    s.selectRomBank a v coerced b =
      Claims.bankSelected s a v (coerced || decide (b.toNat = 0)) (if b.toNat = 0 then 1 else b.toNat) := by
  have hzero : b = 0 ↔ b.toNat = 0 := BitVec.toNat_inj.symm
  have hbank : (if b = 0 then (1 : BitVec 9) else b) = BitVec.ofNat 9 (if b.toNat = 0 then 1 else b.toNat) := by
    simp only [hzero]
    split
    · rfl
    · rw [BitVec.ofNat_toNat, BitVec.setWidth_eq]
  have hnum : (BitVec.ofNat 9 (if b.toNat = 0 then 1 else b.toNat)).toNat = if b.toNat = 0 then 1 else b.toNat := by
    have := b.isLt
    rw [BitVec.toNat_ofNat]
    split <;> omega
  unfold State.selectRomBank Claims.bankSelected
  simp only [hbank]
  generalize (if b.toNat = 0 then 1 else b.toNat) = n at hnum ⊢
  simp only [hnum, hzero, nbanks, Bool.or_eq_true, decide_eq_true_eq, or_assoc]
  split
  · rfl
  · rw [List.append_nil]

/-- The bank a field selects that coerces its own 0 (R102, R106, R111). -/
theorem coerceField_toNat (v : Byte) : (coerceField v).toNat = if v.toNat = 0 then 1 else v.toNat := by
  revert v
  decide

/-- Two fields side by side: a high one that is a multiple of 2^k and a low one below 2^k. -/
theorem or_toNat_of_fields {w : Nat} {hi lo : BitVec w} (k : Nat) (hhi : hi.toNat % 2 ^ k = 0) (hlo : lo.toNat < 2 ^ k) :
    (hi ||| lo).toNat = hi.toNat + lo.toNat := by
  obtain ⟨q, hq⟩ := Nat.dvd_of_mod_eq_zero hhi
  rw [BitVec.toNat_or, hq, Nat.two_pow_add_eq_or_of_lt hlo]

/-- R102: the low five bits, a 0 becoming 1. -/
theorem mbc1Low_toNat (r : BitVec 9) (v : Byte) (hr : r.toNat < 128) :
    ((r &&& (0x60 : BitVec 9)) ||| coerceField (v &&& 0x1F)).toNat =
      r.toNat / 32 * 32 + if v.toNat % 32 = 0 then 1 else v.toNat % 32 := by
  have hi : ∀ r : BitVec 9, (r &&& (0x60 : BitVec 9)).toNat = r.toNat / 32 % 4 * 32 := by decide
  have lo : ∀ v : Byte, (coerceField (v &&& 0x1F)).toNat = if v.toNat % 32 = 0 then 1 else v.toNat % 32 := by decide
  rw [or_toNat_of_fields 5 (by rw [hi]; omega) (by rw [lo]; split <;> omega), hi, lo]
  omega

/-- R103: the two bits above the low five. -/
theorem mbc1High_toNat (r : BitVec 9) (v : Byte) :
    ((r &&& (0x1F : BitVec 9)) ||| ((v &&& 0x03).setWidth 9 <<< 5)).toNat = v.toNat % 4 * 32 + r.toNat % 32 := by
  have hi : ∀ v : Byte, ((v &&& 0x03).setWidth 9 <<< 5).toNat = v.toNat % 4 * 32 := by decide
  have lo : ∀ r : BitVec 9, (r &&& (0x1F : BitVec 9)).toNat = r.toNat % 32 := by decide
  rw [BitVec.or_comm, or_toNat_of_fields 5 (by rw [hi]; omega) (by rw [lo]; omega), hi, lo]

/-- R115: the low eight bits. -/
theorem mbc5Low_toNat (r : BitVec 9) (v : Byte) : ((r &&& (0x100 : BitVec 9)) ||| v.setWidth 9).toNat = r.toNat / 256 * 256 + v.toNat := by
  have hi : ∀ r : BitVec 9, (r &&& (0x100 : BitVec 9)).toNat = r.toNat / 256 * 256 := by decide
  have lo : (v.setWidth 9).toNat = v.toNat := by rw [BitVec.toNat_setWidth]; omega
  rw [or_toNat_of_fields 8 (by rw [hi]; omega) (by rw [lo]; exact v.isLt), hi, lo]

/-- R115: bit 8. -/
theorem mbc5High_toNat (r : BitVec 9) (v : Byte) :
    ((r &&& (0xFF : BitVec 9)) ||| ((v &&& 0x01).setWidth 9 <<< 8)).toNat = v.toNat % 2 * 256 + r.toNat % 256 := by
  have hi : ∀ v : Byte, ((v &&& 0x01).setWidth 9 <<< 8).toNat = v.toNat % 2 * 256 := by decide
  have lo : ∀ r : BitVec 9, (r &&& (0xFF : BitVec 9)).toNat = r.toNat % 256 := by decide
  rw [BitVec.or_comm, or_toNat_of_fields 8 (by rw [hi]; omega) (by rw [lo]; omega), hi, lo]

/-- A bank select whose field has coerced its own 0, if there was one. -/
theorem State.selectRomBank_of_ne {s : State} {b : BitVec 9} {n : Nat} (a : Word) (v : Byte) (coerced : Bool) (hb : b.toNat = n)
    (hn : n ≠ 0) : s.selectRomBank a v coerced b = Claims.bankSelected s a v coerced n := by
  rw [State.selectRomBank_eq_bankSelected, hb, if_neg hn, decide_eq_false hn, Bool.or_false]

/-- Bit 0 as the parity. -/
theorem bitOf_zero (v : Byte) : bitOf v 0 = decide (v.toNat % 2 = 1) := by
  revert v
  decide

/-- Settles O49: range by range, the fields in arithmetic. -/
theorem mbc1Registers : Obligations.Mbc1Registers := by
  unfold Obligations.Mbc1Registers
  intro s a v hk hinv h n bank low
  simp only [Cart.Inv, hk] at hinv
  obtain ⟨hbank, hlow, -⟩ := hinv
  rw [s.memWrite_controller v h, State.controllerWrite, hk]
  simp only [State.mbc1Write, bitOf_zero, decide_eq_true_eq]
  split_ifs with h2 h4 h6 hmode hodd
  · rw [enables_eq]
  · have hcoerced : decide (v &&& 0x1F = 0) = decide (n % 32 = 0) := by
      revert v
      decide
    rw [hcoerced]
    have hpos : 0 < low := by
      show 0 < if n % 32 = 0 then 1 else n % 32
      split <;> omega
    exact s.selectRomBank_of_ne a v _ (mbc1Low_toNat _ v hbank) (Nat.add_pos_right _ hpos).ne'
  · have field : ∀ v : Byte, (v &&& 0x03).setWidth 4 = BitVec.ofNat 4 (v.toNat % 4) := by decide
    rw [field]
  · exact s.selectRomBank_of_ne a v false (mbc1High_toNat _ v) (by omega)
  · rw [decide_eq_true hodd]
  · rw [decide_eq_false hodd]

/-- R112: the clock register a value names. -/
theorem rtcRegOf_eq (v : Byte) :
    rtcRegOf v =
      if v.toNat = 8 then some .r08 else if v.toNat = 9 then some .r09 else if v.toNat = 10 then some .r0A
      else if v.toNat = 11 then some .r0B else if v.toNat = 12 then some .r0C else none := by
  revert v
  decide

theorem match_rtcRegOf {α : Type} (v : Byte) (x : α) (f : RtcReg → α) :
    (match rtcRegOf v with | some r => f r | none => x) =
      if v.toNat = 8 then f .r08 else if v.toNat = 9 then f .r09 else if v.toNat = 10 then f .r0A
      else if v.toNat = 11 then f .r0B else if v.toNat = 12 then f .r0C else x := by
  rw [rtcRegOf_eq]
  split_ifs <;> rfl

/-- R106, R111: a masked bank field that coerces its own 0. -/
theorem State.selectRomBank_coerceField {s : State} {m : Byte} {k : Nat} (a : Word) (v : Byte) (hm : (v &&& m).toNat = v.toNat % k) :
    s.selectRomBank a v (decide (v &&& m = 0)) (coerceField (v &&& m)) =
      Claims.bankSelected s a v (decide (v.toNat % k = 0)) (if v.toNat % k = 0 then 1 else v.toNat % k) := by
  have hzero : v &&& m = 0 ↔ v.toNat % k = 0 := by rw [← hm]; exact BitVec.toNat_inj.symm
  simp only [hzero]
  exact s.selectRomBank_of_ne a v _ (by rw [coerceField_toNat, hm]) (by split <;> omega)

/-- Settles O50: kind by kind and range by range, the fields in arithmetic. -/
theorem theOtherControllersRegisters : Obligations.TheOtherControllersRegisters := by
  unfold Obligations.TheOtherControllersRegisters
  intro s a v h
  dsimp only
  rw [s.memWrite_controller v h]
  refine ⟨fun hk => ?_, fun hk => ?_, fun hk => ?_, fun hk => ?_⟩
  · rw [State.controllerWrite, hk]
  · have hbit : a.getLsbD 8 = decide (a.toNat / 256 % 2 = 1) := by
      rw [BitVec.getLsbD, Nat.testBit_eq_decide_div_mod_eq]
    have hfield : ∀ v : Byte, (v &&& 0x0F).toNat = v.toNat % 16 := by decide
    have hwrite : s.controllerWrite a v = s.mbc2Write a v := by rw [State.controllerWrite, hk]
    rw [hwrite]
    simp only [State.mbc2Write, hbit, decide_eq_true_eq]
    by_cases hlow : a.toNat < 0x4000
    · rw [if_pos hlow, if_neg (Nat.not_le.2 hlow)]
      by_cases hodd : a.toNat / 256 % 2 = 1
      · rw [if_pos hodd, if_neg (by rw [hodd]; decide)]
        exact State.selectRomBank_coerceField a v (hfield v)
      · rw [if_neg hodd, if_pos (by omega), enables_eq]
    · rw [if_neg hlow, if_pos (Nat.not_lt.1 hlow)]
  · have hfield : ∀ v : Byte, (v &&& 0x7F).toNat = v.toNat % 128 := by decide
    have hwrite : s.controllerWrite a v = s.mbc3Write a v := by rw [State.controllerWrite, hk]
    rw [hwrite]
    simp only [State.mbc3Write, enables_eq, State.selectRomBank_coerceField a v (hfield v)]
    refine ite_congr rfl (fun _ => rfl) fun _ => ite_congr rfl (fun _ => rfl) fun _ => ite_congr rfl (fun _ => ?_) fun _ => rfl
    exact ite_congr rfl (fun _ => rfl) fun _ => match_rtcRegOf v s fun r => { s with cart := { s.cart with rtcSelect := some r } }
  · have hbank : ∀ v : Byte, (v &&& 0x0F).setWidth 4 = BitVec.ofNat 4 (v.toNat % 16) := by decide
    have hwrite : s.controllerWrite a v = s.mbc5Write a v := by rw [State.controllerWrite, hk]
    rw [hwrite]
    simp only [State.mbc5Write, enables_eq, hbank, State.selectRomBank_eq_bankSelected, mbc5Low_toNat, mbc5High_toNat, Bool.false_or]
    refine ite_congr rfl (fun _ => rfl) fun _ => ?_
    by_cases h3 : a.toNat < 0x3000
    · simp only [if_pos h3, if_pos (show a.toNat < 0x4000 by omega)]
    · simp only [if_neg h3]

end Sys2Proof.Machine
end

section

namespace Sys2Proof.Machine

/-! ### What an instruction stores (40_loads.md to 45_misc.md, 20_memory.md R86) -/

/-- t differs from s in the CPU, the cycle count and the diagnostics at most. -/
def State.SameBus (s t : State) : Prop := t = { s with cpu := t.cpu, stepCycles := t.stepCycles, diag := t.diag }

theorem State.SameBus.trans {s t u : State} (h : s.SameBus t) (h' : t.SameBus u) : s.SameBus u := by
  unfold State.SameBus at *
  rw [h', h]

/-- No read depends on the CPU, the cycle count or the diagnostics (R85). -/
theorem State.SameBus.memRead {s t : State} (h : s.SameBus t) (b : Word) : t.memRead b = s.memRead b := by
  rw [h]
  rfl

/-- Writes through the router, in order. -/
def State.writeAll (s : State) (ws : List (Word × Byte)) : State := ws.foldl (fun u w => u.memWrite w.1 w.2) s

/-- t is s after one write at each of the listed addresses, in order, and changes off the bus. -/
def State.Stores (s : State) (l : List Word) (t : State) : Prop :=
  ∃ ws : List (Word × Byte), ws.map Prod.fst = l ∧ (s.writeAll ws).SameBus t

theorem State.Stores.quiet {s t : State} (h : s.SameBus t) : s.Stores [] t := ⟨[], rfl, h⟩

theorem State.Stores.one {s t : State} (a : Word) (v : Byte) (h : (s.memWrite a v).SameBus t) : s.Stores [a] t := ⟨[(a, v)], rfl, h⟩

theorem State.Stores.two {s t : State} (a : Word) (v : Byte) (a' : Word) (v' : Byte)
    (h : ((s.memWrite a v).memWrite a' v').SameBus t) : s.Stores [a, a'] t := ⟨[(a, v), (a', v')], rfl, h⟩

/-- The address an r8 operand is stored at: HL, or none for a register. -/
def operandAddrs (s : State) (x : R8) : List Word := if x = .indHl then [Claims.hlOf s.cpu] else []

theorem State.setReg_sameBus (s : State) (r : Reg8) (v : Byte) : s.SameBus (s.setReg r v) := rfl

theorem State.Stores.writeR8 {s t : State} (x : R8) (v : Byte) (h : (s.writeR8 x v).SameBus t) : s.Stores (operandAddrs s x) t := by
  cases x
  case indHl => exact .one _ v h
  all_goals exact .quiet ((s.setReg_sameBus _ v).trans h)

theorem State.Stores.push16 {s t : State} (v : Word) (h : (s.push16 v).SameBus t) : s.Stores [s.cpu.sp - 1, s.cpu.sp - 2] t := by
  refine .two _ (hiByte v) _ (loByte v) (State.SameBus.trans ?_ h)
  rw [State.push16_eq]
  exact rfl

theorem State.withCycles_sameBus (s : State) (n : Nat) : s.SameBus (s.withCycles n) := rfl

theorem State.alu_sameBus (s : State) (o : AluOp) (b : Byte) : s.SameBus (s.alu o b) := by cases o <;> exact rfl

/-- In every state the instruction stores where `storeAddrs` says. -/
def StoresAsListed (i : Instr) : Prop := ∀ s t, exec i s = .next t → s.Stores (Claims.storeAddrs i s) t

theorem StoresAsListed.intro {i : Instr} {f : State → State} {l : State → List Word} (he : ∀ s : State, exec i s = .next (f s))
    (hl : ∀ s : State, Claims.storeAddrs i s = l s) (hf : ∀ s : State, s.Stores (l s) (f s)) : StoresAsListed i := by
  intro s t h
  rw [he] at h
  cases h
  rw [hl]
  exact hf s

/-- An instruction that changes nothing on the bus and is listed with no store. -/
theorem StoresAsListed.quiet {i : Instr} {f : State → State} (he : ∀ s : State, exec i s = .next (f s))
    (hl : ∀ s : State, Claims.storeAddrs i s = []) (hf : ∀ s : State, s.SameBus (f s)) : StoresAsListed i :=
  .intro he hl fun s => .quiet (hf s)

theorem State.cond_eq_condHolds (s : State) (cc : Cond) : s.cond cc = Claims.condHolds s.cpu cc := by
  have hz : ∀ f : Byte, bitOf f 7 = decide (f.toNat / 128 % 2 = 1) := by decide
  have hc : ∀ f : Byte, bitOf f 4 = decide (f.toNat / 16 % 2 = 1) := by decide
  cases cc <;> simp only [State.cond, Claims.condHolds, Cpu.flagZ, Cpu.flagC, Claims.zOf, Claims.cOf, hz, hc]

theorem highPage_eq (n : Byte) : highPage n = BitVec.ofNat 16 (0xFF00 + n.toNat) := by
  revert n
  decide

/-- A CB byte stores its operand, except in the group of BIT (30_encoding.md R161). -/
theorem State.cbByte_stores (s : State) (cb : Byte) :
    s.Stores (if cb.toNat % 8 = 6 ∧ cb.toNat / 64 ≠ 1 then [Claims.hlOf s.cpu] else []) (s.cbByte cb) := by
  have hz : R8.ofCode (fieldZ cb) = .indHl ↔ cb.toNat % 8 = 6 := by
    revert cb
    decide
  have operand (hx : cb.toNat / 64 ≠ 1) :
      (if cb.toNat % 8 = 6 ∧ cb.toNat / 64 ≠ 1 then [Claims.hlOf s.cpu] else []) = operandAddrs s (R8.ofCode (fieldZ cb)) := by
    simp only [operandAddrs, hz, hx, ne_eq, not_false_eq_true, and_true]
  generalize hl : (if cb.toNat % 8 = 6 ∧ cb.toNat / 64 ≠ 1 then [Claims.hlOf s.cpu] else []) = l at operand ⊢
  unfold State.cbByte
  split <;> rename_i hx <;> replace hx : cb.toNat / 64 = _ := congrArg Fin.val hx
  · rw [operand (by rw [hx]; decide)]
    exact .writeR8 _ _ rfl
  · rw [← hl, if_neg fun h => h.2 hx]
    exact .quiet rfl
  · rw [operand (by rw [hx]; decide)]
    exact .writeR8 _ _ rfl
  · rw [operand (by rw [hx]; decide)]
    exact .writeR8 _ _ rfl

theorem storesAsListed (i : Instr) : StoresAsListed i := by
  cases i using Instr.byFamily
  -- the families that store nothing
  case ldReg rd rs => exact .quiet (exec_ldReg rd rs) (fun s => by cases rd <;> cases rs <;> rfl) fun _ => rfl
  case ldRegHl rd => exact .quiet (exec_ldRegHl rd) (fun s => by cases rd <;> rfl) fun _ => rfl
  case ldPair p n => exact .quiet (exec_ldPair p n) (fun s => by cases p <;> rfl) fun _ => rfl
  case pop p => exact .quiet (exec_pop p) (fun s => by cases p <;> rfl) fun _ => rfl
  case alu o x =>
    exact .quiet (exec_alu o x) (fun s => by cases o <;> cases x <;> rfl) fun s => (s.alu_sameBus o _).trans (State.withCycles_sameBus _ _)
  case aluImm o n =>
    exact .quiet (exec_aluImm o n) (fun s => by cases o <;> rfl) fun s => (s.alu_sameBus o n).trans (State.withCycles_sameBus _ _)
  case addHl p => exact .quiet (exec_addHl p) (fun s => by cases p <;> rfl) fun _ => rfl
  case incPair p => exact .quiet (exec_incPair p) (fun s => by cases p <;> rfl) fun _ => rfl
  case decPair p => exact .quiet (exec_decPair p) (fun s => by cases p <;> rfl) fun _ => rfl
  case jrCc cc e =>
    exact .quiet (exec_jrCc cc e) (fun s => by cases cc <;> rfl) fun s => by unfold State.jumpRelCc; split <;> exact rfl
  case jpCc cc a =>
    exact .quiet (exec_jpCc cc a) (fun s => by cases cc <;> rfl) fun s => by unfold State.jumpCc; split <;> exact rfl
  case retCc cc => exact .quiet (exec_retCc cc) (fun s => by cases cc <;> rfl) fun s => by unfold State.retCc; split <;> exact rfl
  case bit b x => exact .quiet (exec_bit b x) (fun s => by fin_cases b <;> cases x <;> rfl) fun _ => rfl
  case illegal p hp =>
    refine .quiet (exec_illegal hp) (fun s => ?_) fun _ => rfl
    simp only [Instr.illegalBytes, List.mem_cons, List.not_mem_nil, or_false] at hp
    rcases hp with rfl | rfl | rfl | rfl | rfl | rfl | rfl | rfl | rfl | rfl | rfl <;> rfl
  -- the families that store an operand
  case ldHlReg rs => exact .intro (exec_ldHlReg rs) (fun s => by cases rs <;> rfl) fun s => .writeR8 .indHl _ rfl
  case ldImm8 x n => exact .intro (exec_ldImm8 x n) (fun s => by cases x <;> rfl) fun s => .writeR8 x n rfl
  case inc x => exact .intro (exec_inc x) (fun s => by cases x <;> rfl) fun s => .writeR8 x _ rfl
  case dec x => exact .intro (exec_dec x) (fun s => by cases x <;> rfl) fun s => .writeR8 x _ rfl
  case rot o x => exact .intro (exec_rot o x) (fun s => by cases o <;> cases x <;> rfl) fun s => .writeR8 x _ rfl
  case res b x => exact .intro (exec_res b x) (fun s => by fin_cases b <;> cases x <;> rfl) fun s => .writeR8 x _ rfl
  case set b x => exact .intro (exec_set b x) (fun s => by fin_cases b <;> cases x <;> rfl) fun s => .writeR8 x _ rfl
  case prefixCb cb => exact .intro (fun _ => rfl) (fun _ => rfl) fun s => s.cbByte_stores cb
  -- the families that push
  case push p => exact .intro (exec_push p) (fun s => by cases p <;> rfl) fun s => .push16 _ rfl
  case rst y => exact .intro (exec_rst y) (fun s => by fin_cases y <;> rfl) fun s => .push16 _ rfl
  case callA16 a => exact .intro (fun _ => rfl) (fun _ => rfl) fun s => .push16 _ rfl
  case callCc cc a =>
    refine .intro (l := fun s => if s.cond cc then [s.cpu.sp - 1, s.cpu.sp - 2] else []) (exec_callCc cc a) (fun s => ?_) fun s => ?_
    · rw [State.cond_eq_condHolds]
      cases cc <;> rfl
    · unfold State.callCc
      split
      · exact .push16 _ rfl
      · exact .quiet rfl
  -- the stores of A and SP
  case ldIndA16Sp a => exact .intro (fun _ => rfl) (fun _ => rfl) fun s => .two a _ (a + 1) _ rfl
  case ldIndA16A a => exact .intro (fun _ => rfl) (fun _ => rfl) fun s => .one a _ rfl
  case ldhIndA8A n => exact .intro (fun _ => rfl) (fun _ => congrArg (fun a => [a]) (highPage_eq n).symm) fun s => .one (highPage n) _ rfl
  case ldIndCA => exact .intro (fun _ => rfl) (fun _ => rfl) fun s => .one _ _ rfl
  case ldIndBcA => exact .intro (fun _ => rfl) (fun _ => rfl) fun s => .one _ _ rfl
  case ldIndDeA => exact .intro (fun _ => rfl) (fun _ => rfl) fun s => .one _ _ rfl
  case ldIndHliA => exact .intro (fun _ => rfl) (fun _ => rfl) fun s => .one _ _ rfl
  case ldIndHldA => exact .intro (fun _ => rfl) (fun _ => rfl) fun s => .one _ _ rfl
  case ei => exact .quiet (fun _ => rfl) (fun _ => rfl) fun s => by unfold State.enableInts; split <;> exact rfl
  all_goals exact .quiet (fun _ => rfl) (fun _ => rfl) fun _ => rfl

/-! ### The frame of an instruction -/

/-- What a write can touch depends on the owners and the controller's kind, which no write changes. -/
theorem touches_memWrite (s : State) (a : Word) (v : Byte) (a' b : Word) :
    Claims.touches (s.memWrite a v) a' b ↔ Claims.touches s a' b := by
  simp only [Claims.touches, State.memWrite_owner, State.memWrite_ctype]

theorem State.memRead_writeAll {s : State} {ws : List (Word × Byte)} {b : Word} (hwf : s.MemWf)
    (h : ∀ a ∈ ws.map Prod.fst, ¬ Claims.touches s a b) : (s.writeAll ws).memRead b = s.memRead b := by
  induction ws generalizing s with
  | nil => rfl
  | cons w ws ih =>
    obtain ⟨a, v⟩ := w
    have hrest : ∀ a' ∈ ws.map Prod.fst, ¬ Claims.touches (s.memWrite a v) a' b := fun a' ha' => by
      rw [touches_memWrite]
      exact h a' (List.mem_cons_of_mem _ ha')
    calc (s.writeAll ((a, v) :: ws)).memRead b
        = ((s.memWrite a v).writeAll ws).memRead b := rfl
      _ = (s.memWrite a v).memRead b := ih (State.memWrite_memWf a v hwf) hrest
      _ = s.memRead b := aWriteLeavesEveryOtherAddressAlone s a b v hwf (h a List.mem_cons_self)

/-- Settles O44: the instruction's stores are those of its list, and each leaves the address alone. -/
theorem everyInstructionLeavesTheRestOfMemory : Obligations.EveryInstructionLeavesTheRestOfMemory := by
  unfold Obligations.EveryInstructionLeavesTheRestOfMemory
  intro i s t b hwf hexec hnone
  obtain ⟨ws, hws, hbus⟩ := storesAsListed i s t hexec
  rw [← hws] at hnone
  rw [hbus.memRead, State.memRead_writeAll hwf hnone]

/-- What no instruction changes: the parameters, `booting`, the cartridge's bytes and kind and `total_cycles`; the diagnostics only
grow. -/
structure State.SameMachine (s t : State) : Prop where
  par : t.par = s.par
  booting : t.booting = s.booting
  rom : t.cart.rom = s.cart.rom
  ctype : t.cart.ctype = s.cart.ctype
  totalCycles : t.totalCycles = s.totalCycles
  diag : s.diag <+: t.diag

theorem State.memWrite_sameMachine (s : State) (a : Word) (v : Byte) : s.SameMachine (s.memWrite a v) := by
  obtain ⟨-, hpar, hboot, -, htotal, hrom, hctype, d, hd⟩ := s.memWrite_keeps a v
  exact ⟨hpar, hboot, hrom, hctype, htotal, d, hd.symm⟩

theorem State.SameMachine.trans {s t u : State} (h : s.SameMachine t) (h' : t.SameMachine u) : s.SameMachine u :=
  ⟨h'.par.trans h.par, h'.booting.trans h.booting, h'.rom.trans h.rom, h'.ctype.trans h.ctype,
    h'.totalCycles.trans h.totalCycles, h.diag.trans h'.diag⟩

theorem Effect.sameMachine {s t : State} (e : Effect s t) : s.SameMachine t := by
  induction e with
  | start => exact ⟨rfl, rfl, rfl, rfl, rfl, List.prefix_rfl⟩
  | cycles n _ ih => exact ih.trans ⟨rfl, rfl, rfl, rfl, rfl, List.prefix_rfl⟩
  | cpu c _ _ ih => exact ih.trans ⟨rfl, rfl, rfl, rfl, rfl, List.prefix_rfl⟩
  | store a v _ ih => exact ih.trans (State.memWrite_sameMachine _ a v)
  | illegal op a _ ih => exact ih.trans ⟨rfl, rfl, rfl, rfl, rfl, List.prefix_append _ _⟩

/-- Settles O45: with nothing stored only the CPU, the cycle count and the diagnostics can differ; the rest holds of each kind of change
an instruction is made of. -/
theorem everyInstructionLeavesTheRestOfTheMachine : Obligations.EveryInstructionLeavesTheRestOfTheMachine := by
  unfold Obligations.EveryInstructionLeavesTheRestOfTheMachine
  intro i s t hexec
  obtain ⟨hpar, hboot, hrom, hctype, htotal, d, hd⟩ := (exec_effect i hexec).sameMachine
  refine ⟨fun hnone => ?_, hpar, hboot, hrom, hctype, htotal, d, hd.symm⟩
  obtain ⟨ws, hws, hbus⟩ := storesAsListed i s t hexec
  rw [hnone, List.map_eq_nil_iff] at hws
  subst hws
  rw [hbus]
  exact ⟨rfl, rfl, rfl, rfl, rfl, rfl, rfl⟩

end Sys2Proof.Machine
end

section

namespace Sys2Proof

open Machine (word16 loByte hiByte fieldX fieldY fieldZ)

/-! ### The CB map by the fields of its byte (30_encoding.md R151, R159, R161) -/

theorem R8.ofCode_surjective (x : R8) : ∃ z, R8.ofCode z = x := by
  cases x
  exacts [⟨0, rfl⟩, ⟨1, rfl⟩, ⟨2, rfl⟩, ⟨3, rfl⟩, ⟨4, rfl⟩, ⟨5, rfl⟩, ⟨6, rfl⟩, ⟨7, rfl⟩]

theorem RotOp.ofCode_surjective (o : RotOp) : ∃ y, RotOp.ofCode y = o := by
  cases o
  exacts [⟨0, rfl⟩, ⟨1, rfl⟩, ⟨2, rfl⟩, ⟨3, rfl⟩, ⟨4, rfl⟩, ⟨5, rfl⟩, ⟨6, rfl⟩, ⟨7, rfl⟩]

/-- The CB byte with the given group, operation or bit index, and operand code. -/
def cbByte (x : Fin 4) (y z : Fin 8) : Byte := BitVec.ofNat 8 (64 * x.val + 8 * y.val + z.val)

theorem cbByte_toNat (x : Fin 4) (y z : Fin 8) : (cbByte x y z).toNat = 64 * x.val + 8 * y.val + z.val := by
  rw [cbByte, BitVec.toNat_ofNat]
  omega

@[simp] theorem fieldX_cbByte (x : Fin 4) (y z : Fin 8) : fieldX (cbByte x y z) = x :=
  Fin.ext (by simp only [fieldX, cbByte_toNat]; omega)

@[simp] theorem fieldY_cbByte (x : Fin 4) (y z : Fin 8) : fieldY (cbByte x y z) = y :=
  Fin.ext (by simp only [fieldY, cbByte_toNat]; omega)

@[simp] theorem fieldZ_cbByte (x : Fin 4) (y z : Fin 8) : fieldZ (cbByte x y z) = z :=
  Fin.ext (by simp only [fieldZ, cbByte_toNat]; omega)

theorem decodeCb_rot (y z : Fin 8) : decodeCb (cbByte 0 y z) = .rot (RotOp.ofCode y) (R8.ofCode z) := by
  simp only [decodeCb, fieldX_cbByte, fieldY_cbByte, fieldZ_cbByte]

theorem decodeCb_bit (y z : Fin 8) : decodeCb (cbByte 1 y z) = .bit y (R8.ofCode z) := by
  simp only [decodeCb, fieldX_cbByte, fieldY_cbByte, fieldZ_cbByte]

theorem decodeCb_res (y z : Fin 8) : decodeCb (cbByte 2 y z) = .res y (R8.ofCode z) := by
  simp only [decodeCb, fieldX_cbByte, fieldY_cbByte, fieldZ_cbByte]

theorem decodeCb_set (y z : Fin 8) : decodeCb (cbByte 3 y z) = .set y (R8.ofCode z) := by
  simp only [decodeCb, fieldX_cbByte, fieldY_cbByte, fieldZ_cbByte]

/-- The encoder's CB rows are the cells of the CB map. -/
theorem encode_decodeCb : ∀ cb : Byte, encode (decodeCb cb) = [0xCB, cb] := by decide

theorem wf_decodeCb : ∀ cb : Byte, (decodeCb cb).wf = true := by decide

/-! ### The base map (30_encoding.md R160) against the encoder -/

/-- The encoder gives each instruction of a cell the cell's byte and its operand's bytes, and each is one the decoder can deliver; the
one CB cell is at 0xCB. Cells with an operand say so as an equality of functions of it, so that `rfl` proves every cell. -/
def Format.Encodes (op : Byte) : Format → Prop
  | .op i => (encode i, i.wf) = ([op], true)
  | .imm8 f => (fun n => (encode (f n), (f n).wf)) = fun n => ([op, n], true)
  | .imm16 f => (fun a => (encode (f a), (f a).wf)) = fun a => ([op, loByte a, hiByte a], true)
  | .cb => op = 0xCB

theorem baseFormat_encodes (op : Byte) : (baseFormat op).Encodes op := by
  obtain ⟨n⟩ := op
  fin_cases n <;> exact rfl

/-- What the decoder reads from three bytes, and that the first byte says how long it is (R150). -/
theorem decode_three (b0 b1 b2 : Byte) :
    ∃ i rest, decode [b0, b1, b2] = .ok (i, rest) ∧ i.wf = true ∧ encode i ++ rest = [b0, b1, b2] ∧
      (encode i).length = opLength b0 := by
  have hcell := baseFormat_encodes b0
  cases hf : baseFormat b0 <;> rw [hf] at hcell <;> simp only [opLength, hf]
  case op i =>
    obtain ⟨henc, hwf⟩ := Prod.mk.inj hcell
    exact ⟨i, _, decode_op hf _, hwf, by rw [henc]; rfl, by rw [henc]; rfl⟩
  case imm8 f =>
    obtain ⟨henc, hwf⟩ := Prod.mk.inj (congrFun hcell b1)
    exact ⟨f b1, _, decode_imm8 hf b1 _, hwf, by rw [henc]; rfl, by rw [henc]; rfl⟩
  case imm16 f =>
    obtain ⟨henc, hwf⟩ := Prod.mk.inj (congrFun hcell (word16 b2 b1))
    rw [Machine.loByte_word16, Machine.hiByte_word16] at henc
    exact ⟨f (word16 b2 b1), _, decode_imm16 hf b1 b2 _, hwf, by rw [henc]; rfl, by rw [henc]; rfl⟩
  case cb =>
    obtain rfl : b0 = 0xCB := hcell
    exact ⟨decodeCb b1, _, decode_cb hf b1 _, wf_decodeCb b1, by rw [encode_decodeCb]; rfl, by rw [encode_decodeCb]; rfl⟩

/-! ### The encoder's rows against the maps -/

/-- The decoder reads i, and nothing more, from the front of i's bytes and any others. -/
def DecodesBack (i : Instr) : Prop := ∀ rest, decode (encode i ++ rest) = .ok (i, rest)

theorem DecodesBack.op {i : Instr} {op : Byte} (henc : encode i = [op]) (h : baseFormat op = .op i) : DecodesBack i := fun rest => by
  rw [henc]
  exact decode_op h rest

theorem DecodesBack.imm8 {op : Byte} {f : Byte → Instr} {n : Byte} (henc : encode (f n) = [op, n]) (h : baseFormat op = .imm8 f) :
    DecodesBack (f n) := fun rest => by
  rw [henc]
  exact decode_imm8 h n rest

theorem DecodesBack.imm16 {op : Byte} {f : Word → Instr} {a : Word} (henc : encode (f a) = [op, loByte a, hiByte a])
    (h : baseFormat op = .imm16 f) : DecodesBack (f a) := fun rest => by
  rw [henc]
  exact decode_word h a rest

theorem DecodesBack.of_decodeCb (cb : Byte) : DecodesBack (decodeCb cb) := fun rest => by
  rw [encode_decodeCb]
  exact decode_cb rfl cb rest

theorem decodesBack_of_wf (i : Instr) (hwf : i.wf = true) : DecodesBack i := by
  cases i using Instr.byFamily
  case prefixCb cb => exact Bool.noConfusion hwf
  -- the families of the CB map
  case rot o x =>
    obtain ⟨y, rfl⟩ := o.ofCode_surjective
    obtain ⟨z, rfl⟩ := x.ofCode_surjective
    exact decodeCb_rot y z ▸ .of_decodeCb _
  case bit b x =>
    obtain ⟨z, rfl⟩ := x.ofCode_surjective
    exact decodeCb_bit b z ▸ .of_decodeCb _
  case res b x =>
    obtain ⟨z, rfl⟩ := x.ofCode_surjective
    exact decodeCb_res b z ▸ .of_decodeCb _
  case set b x =>
    obtain ⟨z, rfl⟩ := x.ofCode_surjective
    exact decodeCb_set b z ▸ .of_decodeCb _
  -- the instructions with a 16-bit immediate
  case ldPair p n => cases p <;> exact .imm16 rfl rfl
  case jpCc cc a => cases cc <;> exact .imm16 rfl rfl
  case callCc cc a => cases cc <;> exact .imm16 rfl rfl
  case ldIndA16Sp a => exact .imm16 rfl rfl
  case jpA16 a => exact .imm16 rfl rfl
  case callA16 a => exact .imm16 rfl rfl
  case ldIndA16A a => exact .imm16 rfl rfl
  case ldAIndA16 a => exact .imm16 rfl rfl
  -- the instructions with an 8-bit immediate
  case ldImm8 x n => cases x <;> exact .imm8 rfl rfl
  case aluImm o n => cases o <;> exact .imm8 rfl rfl
  case jrCc cc e => cases cc <;> exact .imm8 rfl rfl
  case stop n => exact .imm8 rfl rfl
  case jrE8 e => exact .imm8 rfl rfl
  case ldhIndA8A n => exact .imm8 rfl rfl
  case addSpE8 e => exact .imm8 rfl rfl
  case ldhAIndA8 n => exact .imm8 rfl rfl
  case ldHlSpE8 e => exact .imm8 rfl rfl
  -- the instructions of one byte
  case ldReg rd rs => cases rd <;> cases rs <;> exact .op rfl rfl
  case ldRegHl rd => cases rd <;> exact .op rfl rfl
  case ldHlReg rs => cases rs <;> exact .op rfl rfl
  case push p => cases p <;> exact .op rfl rfl
  case pop p => cases p <;> exact .op rfl rfl
  case alu o x => cases o <;> cases x <;> exact .op rfl rfl
  case inc x => cases x <;> exact .op rfl rfl
  case dec x => cases x <;> exact .op rfl rfl
  case addHl p => cases p <;> exact .op rfl rfl
  case incPair p => cases p <;> exact .op rfl rfl
  case decPair p => cases p <;> exact .op rfl rfl
  case retCc cc => cases cc <;> exact .op rfl rfl
  case rst y => fin_cases y <;> exact .op rfl rfl
  case illegal p hp =>
    simp only [Instr.illegalBytes, List.mem_cons, List.not_mem_nil, or_false] at hp
    rcases hp with rfl | rfl | rfl | rfl | rfl | rfl | rfl | rfl | rfl | rfl | rfl <;> exact .op rfl rfl
  all_goals exact .op rfl rfl

/-- Settles O29: family by family, each encoding is a cell of one of the two maps. -/
theorem decodingAnEncodingGivesTheInstruction : Obligations.DecodingAnEncodingGivesTheInstruction := by
  unfold Obligations.DecodingAnEncodingGivesTheInstruction
  exact fun i rest hwf => decodesBack_of_wf i hwf rest

/-- Settles O30: every cell of the two maps holds a well-formed instruction whose encoding starts with the cell's byte. -/
theorem everyByteSequenceDecodes : Obligations.EveryByteSequenceDecodes := by
  unfold Obligations.EveryByteSequenceDecodes
  intro b0 b1 b2
  obtain ⟨i, rest, hdec, hwf, henc, -⟩ := decode_three b0 b1 b2
  exact ⟨i, rest, hdec, hwf, henc⟩

/-! ### The length (30_encoding.md R150) -/

/-- The two lists of R150 are the format column of the base map. -/
theorem opLength_eq_lengthOf : ∀ op : Byte, opLength op = Claims.lengthOf op := by decide

/-- Settles O31: the bytes taken are the encoding's, whose length the format of the first byte fixes. -/
theorem lengthFollowsFromTheFirstByte : Obligations.LengthFollowsFromTheFirstByte := by
  unfold Obligations.LengthFollowsFromTheFirstByte
  intro b0 b1 b2 i rest h
  obtain ⟨j, rest', hdec, -, henc, hlen⟩ := decode_three b0 b1 b2
  obtain ⟨rfl, rfl⟩ : j = i ∧ rest' = rest := by simpa using hdec.symm.trans h
  have htotal : (encode j).length + rest'.length = 3 := by rw [← List.length_append, henc]; rfl
  rw [← opLength_eq_lengthOf, ← hlen]
  exact ⟨by omega, rfl⟩

/-! ### The CB byte in arithmetic (30_encoding.md R152, R157, R159, R161) -/

theorem r8OfCode_val : ∀ z : Fin 8, Claims.r8OfCode z.val = R8.ofCode z := by decide

theorem rotOfCode_val : ∀ y : Fin 8, Claims.rotOfCode y.val = RotOp.ofCode y := by decide

/-- R159's index by the nibbles is the field `cb[5:3]`. -/
theorem nibbleIndex_eq_fieldY (cb : Byte) : cb.toNat / 16 % 4 * 2 + cb.toNat / 8 % 2 = (fieldY cb).val := by
  simp only [fieldY]
  omega

theorem decodeCb_eq_cbInstr (cb : Byte) : decodeCb cb = Claims.cbInstr cb := by
  have hx : cb.toNat / 64 = (fieldX cb).val := rfl
  have hz : cb.toNat % 8 = (fieldZ cb).val := rfl
  have hb : Fin.ofNat 8 (fieldY cb).val = fieldY cb := Fin.ofNat_val_eq_self _
  simp only [Claims.cbInstr, decodeCb, nibbleIndex_eq_fieldY, hx, hz, r8OfCode_val, rotOfCode_val, hb]
  generalize fieldX cb = x
  fin_cases x <;> rfl

/-- Settles O32: the nibble arithmetic names the same fields as the decoder's. -/
theorem cbBytesDecodeByArithmetic : Obligations.CbBytesDecodeByArithmetic := by
  unfold Obligations.CbBytesDecodeByArithmetic
  intro cb rest
  rw [← decodeCb_eq_cbInstr]
  exact decode_cb rfl cb rest

/-! ### Words written out -/

/-- Settles O28: each word by the format of its first byte; the two short ones end before their opcode or operand. -/
theorem wordsOfEveryFamilyDecode : Obligations.WordsOfEveryFamilyDecode := by
  unfold Obligations.WordsOfEveryFamilyDecode
  exact ⟨decode_op rfl _, decode_op rfl _, decode_imm8 rfl _ _, decode_imm16 rfl _ _ _, decode_op rfl _, decode_imm16 rfl _ _ _,
    decode_op rfl _, decode_op rfl _, decode_imm8 rfl _ _, decode_op rfl _, decode_op rfl _, decode_op rfl _,
    decode_cb rfl _ _, decode_cb rfl _ _, decode_cb rfl _ _, decode_cb rfl _ _,
    decode_imm8 rfl _ _, decode_imm16 rfl _ _ _, decode_op rfl _, decode_op rfl _, decode_imm8 rfl _ _, decode_op rfl _, rfl, rfl⟩

end Sys2Proof
end

section

namespace Sys2Proof.Machine

/-! ### The terms of the statements and the model's operations (00_scope.md R12, 10_state.md R31, R33) -/

@[simp] theorem highPart_eq_hiByte (v : Word) : Claims.highPart v = hiByte v := by
  apply BitVec.eq_of_toNat_eq
  have hlt : v.toNat / 256 < 256 := by omega
  rw [hiByte_toNat, Claims.highPart, Claims.byte, BitVec.toNat_ofNat, Nat.mod_eq_of_lt hlt]

@[simp] theorem lowPart_eq_loByte (v : Word) : Claims.lowPart v = loByte v := by
  apply BitVec.eq_of_toNat_eq
  rw [loByte_toNat, Claims.lowPart, Claims.byte, BitVec.toNat_ofNat, Nat.mod_mod]

@[simp] theorem withPair_eq_setPair (c : Cpu) (v : Word) (p : R16) : Claims.withPair c v p = c.setPair v p := by
  cases p <;> simp only [Claims.withPair, Cpu.setPair, highPart_eq_hiByte, lowPart_eq_loByte]

@[simp] theorem stkValue_eq_stackPair (c : Cpu) (p : R16Stk) : Claims.stkValue c p = c.stackPair p := by cases p <;> rfl

/-- R33's mask in arithmetic. -/
theorem maskF_eq_ofNat (v : Byte) : maskF v = BitVec.ofNat 8 (v.toNat / 16 * 16) := by
  revert v
  decide

@[simp] theorem withStk_eq_setStackPair (c : Cpu) (v : Word) (p : R16Stk) : Claims.withStk c v p = c.setStackPair v p := by
  have hf : Claims.byte (v.toNat % 256 / 16 * 16) = maskF (loByte v) := by rw [maskF_eq_ofNat, loByte_toNat, Claims.byte]
  cases p <;> simp only [Claims.withStk, Cpu.setStackPair, highPart_eq_hiByte, lowPart_eq_loByte, hf]

@[simp] theorem flags_eq_packF (z n h c : Bool) : Claims.flags z n h c = packF z n h c := by
  cases z <;> cases n <;> cases h <;> cases c <;> rfl

/-- Adding a number modulo 2^16. -/
theorem ofNat_toNat_add (a : Word) (k : Nat) : BitVec.ofNat 16 (a.toNat + k) = a + BitVec.ofNat 16 k := by
  rw [BitVec.ofNat_add, BitVec.ofNat_toNat, BitVec.setWidth_eq]

/-- The signed sum modulo 2^16 is the sum with the sign-extended byte (00_scope.md R12). -/
@[simp] theorem plusSigned_eq_add_sext16 (x : Word) (e : Byte) : Claims.plusSigned x e = x + sext16 e := by
  rw [Claims.plusSigned, BitVec.ofInt_add, BitVec.ofInt_natCast, BitVec.ofNat_toNat, BitVec.setWidth_eq]
  rfl

/-! ### The encodings of the families of loads (30_encoding.md R152 to R154, R160) -/

theorem encode_ldReg (rd rs : Reg8) : encode (.ldReg rd rs) = [Claims.byte (0x40 + 8 * Claims.regCode rd + Claims.regCode rs)] := by
  cases rd <;> cases rs <;> rfl

theorem encode_ldRegHl (rd : Reg8) : encode (.ldRegHl rd) = [Claims.byte (0x46 + 8 * Claims.regCode rd)] := by cases rd <;> rfl

theorem encode_ldHlReg (rs : Reg8) : encode (.ldHlReg rs) = [Claims.byte (0x70 + Claims.regCode rs)] := by cases rs <;> rfl

theorem encode_ldImm8 (x : R8) (n : Byte) : encode (.ldImm8 x n) = [Claims.byte (0x06 + 8 * Claims.r8Code x), n] := by
  cases x <;> rfl

theorem encode_ldPair (p : R16) (n : Word) :
    encode (.ldPair p n) = [Claims.byte (0x01 + 16 * Claims.pairCode p), loByte n, hiByte n] := by
  cases p <;> rfl

theorem encode_push (p : R16Stk) : encode (.push p) = [Claims.byte (0xC5 + 16 * Claims.stkCode p)] := by cases p <;> rfl

theorem encode_pop (p : R16Stk) : encode (.pop p) = [Claims.byte (0xC1 + 16 * Claims.stkCode p)] := by cases p <;> rfl

/-! ### One load or store (40_loads.md) -/

/-- A register's own r8 code (R152). -/
theorem r8Code_of_regOf {x : R8} {r : Reg8} (h : Claims.regOf x = some r) : Claims.r8Code x = Claims.regCode r := by
  cases x <;> cases h <;> rfl

/-- `R8[d] <- n` on a register (R203). -/
theorem State.loadImm_of_regOf {x : R8} {r : Reg8} (h : Claims.regOf x = some r) (s : State) (n : Byte) :
    s.loadImm x n = { s with cpu := s.cpu.setReg n r, stepCycles := 8 } := by
  cases x <;> cases h <;> rfl

/-- Settles O1: the three families' meanings, an immediate going to the register its operand names. -/
theorem loadsIntoAnEightBitRegister : Obligations.LoadsIntoAnEightBitRegister := by
  unfold Obligations.LoadsIntoAnEightBitRegister
  intro rd rs x n s
  refine ⟨⟨encode_ldReg rd rs, exec_ldReg rd rs s⟩, ⟨encode_ldRegHl rd, exec_ldRegHl rd s⟩, fun hx => ⟨?_, ?_⟩⟩
  · rw [encode_ldImm8, r8Code_of_regOf hx]
  · rw [exec_ldImm8, State.loadImm_of_regOf hx]

/-- Settles O2: `LD (HL),d8` is the immediate load's operand at HL. -/
theorem storesAtHl : Obligations.StoresAtHl := by
  unfold Obligations.StoresAtHl
  exact fun rs n s => ⟨⟨encode_ldHlReg rs, exec_ldHlReg rs s⟩, encode_ldImm8 .indHl n, exec_ldImm8 .indHl n s⟩

/-- Settles O3: each is `State.loadA` at its address. -/
theorem loadsIntoTheAccumulator : Obligations.LoadsIntoTheAccumulator := by
  unfold Obligations.LoadsIntoTheAccumulator
  intro a n s
  rw [lowPart_eq_loByte, highPart_eq_hiByte, ← highPage_eq, ← highPage_eq]
  exact ⟨⟨rfl, rfl⟩, ⟨rfl, rfl⟩, ⟨rfl, rfl⟩, ⟨rfl, rfl⟩, ⟨rfl, rfl⟩⟩

/-- Settles O4: each is `State.storeA` at its address. -/
theorem storesOfTheAccumulator : Obligations.StoresOfTheAccumulator := by
  unfold Obligations.StoresOfTheAccumulator
  intro a n s
  rw [lowPart_eq_loByte, highPart_eq_hiByte, ← highPage_eq, ← highPage_eq]
  exact ⟨⟨rfl, rfl⟩, ⟨rfl, rfl⟩, ⟨rfl, rfl⟩, ⟨rfl, rfl⟩, ⟨rfl, rfl⟩⟩

/-- `MemWrite(HL, 1, A); HL <- HL + d`: the write leaves the CPU to the register update (R215, R216). -/
theorem State.storeAStep_eq (s : State) (d : Word) :
    s.storeAStep d = { s.memWrite s.cpu.hl s.cpu.a with cpu := s.cpu.setPair (s.cpu.hl + d) .hl, stepCycles := 8 } := by
  rw [State.storeAStep, State.setPair, State.memWrite_cpu]
  rfl

/-- Settles O5: the two shared operations with the step 1 and with the step 65535, which is -1 modulo 2^16. -/
theorem postIncrementAndPostDecrementForms : Obligations.PostIncrementAndPostDecrementForms := by
  unfold Obligations.PostIncrementAndPostDecrementForms
  intro s
  simp only [ofNat_toNat_add, withPair_eq_setPair]
  exact ⟨⟨rfl, congrArg Host.Outcome.next (s.storeAStep_eq 1)⟩,
    ⟨rfl, congrArg Host.Outcome.next (s.storeAStep_eq (-1))⟩, ⟨rfl, rfl⟩, ⟨rfl, rfl⟩⟩

/-- Settles O6: the immediate and HL land in the pair whole. -/
theorem loadsOfASixteenBitRegister : Obligations.LoadsOfASixteenBitRegister := by
  unfold Obligations.LoadsOfASixteenBitRegister
  intro p n s
  rw [lowPart_eq_loByte, highPart_eq_hiByte, withPair_eq_setPair]
  exact ⟨⟨encode_ldPair p n, exec_ldPair p n s⟩, rfl, rfl⟩

/-- Settles O7: the two writes of `MemWrite(a, 2, SP)`. -/
theorem storeOfTheStackPointer : Obligations.StoreOfTheStackPointer := by
  unfold Obligations.StoreOfTheStackPointer
  intro a s
  simp only [ofNat_toNat_add, lowPart_eq_loByte, highPart_eq_hiByte]
  exact ⟨rfl, rfl⟩

/-- Settles O14: the signed sum is the sum with the sign-extended byte, and the flags come from the low byte of SP. -/
theorem stackPointerPlusASignedByte : Obligations.StackPointerPlusASignedByte := by
  unfold Obligations.StackPointerPlusASignedByte
  intro e s
  have hh : halfCarryAdd (loByte s.cpu.sp) e false = decide (s.cpu.sp.toNat % 16 + e.toNat % 16 > 15) := by
    have hmod : s.cpu.sp.toNat % 256 % 16 = s.cpu.sp.toNat % 16 := Nat.mod_mod_of_dvd _ (by decide)
    rw [halfCarryAdd, loByte_toNat, hmod]
    rfl
  have hc : carryAdd (loByte s.cpu.sp) e false = decide (s.cpu.sp.toNat % 256 + e.toNat > 255) := by
    rw [carryAdd, loByte_toNat]
    rfl
  simp only [plusSigned_eq_add_sext16, flags_eq_packF, withPair_eq_setPair, ← hh, ← hc]
  exact ⟨⟨rfl, rfl⟩, ⟨rfl, rfl⟩⟩

/-! ### The stack (00_scope.md R12; 40_loads.md R223 to R225) -/

/-- Settles O8: `State.push16_eq` with the pair's value. -/
theorem pushOfAPair : Obligations.PushOfAPair := by
  unfold Obligations.PushOfAPair
  intro p s
  refine ⟨encode_push p, ?_⟩
  rw [exec_push, State.pushPair, State.push16_eq, Claims.pushed, stkValue_eq_stackPair, highPart_eq_hiByte, lowPart_eq_loByte]
  rfl

/-- Settles O9: the popped word is read before SP moves, and setting the pair leaves SP alone. -/
theorem popOfAPair : Obligations.PopOfAPair := by
  unfold Obligations.PopOfAPair
  intro p s
  refine ⟨encode_pop p, ?_⟩
  rw [exec_pop, withStk_eq_setStackPair]
  cases p <;> rfl

/-- A word pushed onto plain RAM is the word on top of the stack. -/
theorem State.stackTop_push16 {s : State} (hwf : s.MemWf) (hhigh : s.owner (s.cpu.sp - 1) = .ram)
    (hlow : s.owner (s.cpu.sp - 2) = .ram) (v : Word) : (s.push16 v).stackTop = v := by
  have hne : s.cpu.sp - 1 ≠ s.cpu.sp - 2 := by bv_omega
  have hnext : s.cpu.sp - 2 + 1 = s.cpu.sp - 1 := by bv_omega
  have hwf' := State.memWrite_memWf (s.cpu.sp - 1) (hiByte v) hwf
  have read (b : Word) (hb : s.owner b = .ram) : (s.push16 v).memRead b =
      if b = s.cpu.sp - 2 then loByte v else if b = s.cpu.sp - 1 then hiByte v else s.memRead b := by
    rw [State.push16_eq, State.memRead_withCpu,
      State.memRead_memWrite_ram _ hwf'.mem (by rwa [State.memWrite_owner]) (by rwa [State.memWrite_owner]),
      State.memRead_memWrite_ram _ hwf.mem hhigh hb]
  rw [State.stackTop, State.memRead16, State.push16_cpu]
  simp only [hnext, read _ hhigh, read _ hlow, hne, if_true, if_false, word16_hiByte_loByte]

@[simp] theorem State.withCycles_stackTop (s : State) (n : Nat) : (s.withCycles n).stackTop = s.stackTop := rfl

@[simp] theorem State.setPc_stackTop (s : State) (v : Word) : (s.setPc v).stackTop = s.stackTop := rfl

/-- Settles O51: what was pushed is on top of the stack, and dropping it restores SP. -/
theorem pushThenPopAndCallThenReturn : Obligations.PushThenPopAndCallThenReturn := by
  unfold Obligations.PushThenPopAndCallThenReturn
  intro s p q a hwf hhigh hlow
  have htop := State.stackTop_push16 hwf hhigh hlow
  have hsp : s.cpu.sp - 2 + 2 = s.cpu.sp := by bv_omega
  refine ⟨⟨s.pushPair p, (s.pushPair p).popPair q, exec_push p s, exec_pop q _, ?_⟩,
    ⟨s.call a 24, (s.call a 24).ret 16, rfl, rfl, ?_⟩⟩
  · simp only [State.popPair, State.pushPair, State.withCycles_cpu, State.setStackPair_cpu, State.dropTop_cpu, State.push16_cpu, hsp,
      State.withCycles_stackTop, htop, withStk_eq_setStackPair, stkValue_eq_stackPair]
  · simp only [State.ret, State.call, State.withCycles_cpu, State.setPc_cpu, State.dropTop_cpu, State.push16_cpu, hsp,
      State.withCycles_stackTop, State.setPc_stackTop, htop]

end Sys2Proof.Machine
end

section

namespace Sys2Proof.Machine

/-! ### The operand, the carry and the cycles of a form (00_scope.md R11, 10_state.md R33, 30_encoding.md R152) -/

@[simp] theorem operand_eq_readR8 (s : State) (x : R8) : Claims.operand s x = s.readR8 x := by cases x <;> rfl

@[simp] theorem withOperand_eq_writeR8 (s : State) (x : R8) (v : Byte) : Claims.withOperand s x v = s.writeR8 x v := by
  cases x <;> rfl

theorem State.cOf_eq_flagC (s : State) : Claims.cOf s.cpu = s.cpu.flagC := (s.cond_eq_condHolds .c).symm

theorem costOf_eq_ite (x : R8) (onReg onHl : Nat) : costOf x onReg onHl = if x = .indHl then onHl else onReg := by
  cases x <;> rfl

/-! ### A byte and its exact number (00_scope.md R12, R14) -/

theorem byte_of_toNat {r : Byte} {n : Nat} (h : r.toNat = n) : Claims.byte n = r := by
  rw [← h]
  exact (BitVec.ofNat_toNat 8 r).trans (BitVec.setWidth_eq r)

theorem decide_zero_of_toNat {r : Byte} {n : Nat} (h : r.toNat = n) : decide (n = 0) = decide (r = 0) := by
  rw [← h]
  exact decide_eq_decide.mpr (BitVec.toNat_inj (y := 0))

theorem byteOfBool_toNat (c : Bool) : (byteOfBool c).toNat = c.toNat := by cases c <;> rfl

theorem add_byteOfBool_toNat (a b : Byte) (c : Bool) : (a + b + byteOfBool c).toNat = (a.toNat + b.toNat + c.toNat) % 256 := by
  rw [BitVec.toNat_add, BitVec.toNat_add, byteOfBool_toNat, Nat.mod_add_mod]

theorem sub_toNat (a b : Byte) : (a - b).toNat = (a.toNat + 256 - b.toNat) % 256 := by bv_omega

theorem sub_byteOfBool_toNat (a b : Byte) (c : Bool) :
    (a - b - byteOfBool c).toNat = (a.toNat + 512 - b.toNat - c.toNat) % 256 := by
  have hb := b.isLt
  have hc := c.toNat_le
  rw [sub_toNat, sub_toNat, byteOfBool_toNat]
  omega

theorem lowNibble_eq_iff (v n : Byte) : v &&& 0xF = n ↔ v.toNat % 16 = n.toNat := by
  have h : (v &&& 0xF).toNat = v.toNat % 16 := (BitVec.toNat_and v 0xF).trans (Nat.and_two_pow_sub_one_eq_mod v.toNat 4)
  rw [← BitVec.toNat_inj, h]

/-! ### The ALU operations (41_alu8.md R239 to R247, R252) -/

theorem encode_alu (o : AluOp) (x : R8) : encode (.alu o x) = [Claims.byte (0x80 + 8 * Claims.aluCode o + Claims.r8Code x)] := by
  cases o <;> cases x <;> rfl

theorem encode_aluImm (o : AluOp) (n : Byte) : encode (.aluImm o n) = [Claims.byte (0xC6 + 8 * Claims.aluCode o), n] := by
  cases o <;> rfl

/-- Z from an exact result (R252); CP writes no more. -/
theorem State.setFlags_of_toNat (s : State) {r : Byte} {k : Nat} (hr : r.toNat = k) (n h c : Bool) :
    s.setFlags (decide (r = 0)) n h c = { s with cpu := { s.cpu with f := Claims.flags (decide (k = 0)) n h c } } := by
  rw [decide_zero_of_toNat hr, flags_eq_packF]
  rfl

/-- R252 on an exact result. -/
theorem State.setAcc_of_toNat (s : State) {r : Byte} {k : Nat} (hr : r.toNat = k) (n h c : Bool) :
    s.setAcc r n h c =
      { s with cpu := { s.cpu with a := Claims.byte k, f := Claims.flags (decide (k = 0)) n h c } } := by
  rw [State.setAcc, State.setFlags_of_toNat _ hr, byte_of_toNat hr]
  rfl

/-- The model's operations are the rules' results and flags in exact numbers. -/
theorem State.alu_eq_aluCpu (s : State) (o : AluOp) (b : Byte) : s.alu o b = { s with cpu := Claims.aluCpu o s.cpu b } := by
  simp only [Claims.aluCpu, s.cOf_eq_flagC]
  cases o
  case add => exact s.setAcc_of_toNat (BitVec.toNat_add _ _) _ _ _
  case adc => exact s.setAcc_of_toNat (add_byteOfBool_toNat _ _ _) _ _ _
  case sub => exact s.setAcc_of_toNat (sub_toNat _ _) _ _ _
  case sbc => exact s.setAcc_of_toNat (sub_byteOfBool_toNat _ _ _) _ _ _
  case and => exact s.setAcc_of_toNat (BitVec.toNat_and _ _) _ _ _
  case xor => exact s.setAcc_of_toNat (BitVec.toNat_xor _ _) _ _ _
  case or => exact s.setAcc_of_toNat (BitVec.toNat_or _ _) _ _ _
  case cp => exact s.setFlags_of_toNat (sub_toNat _ _) _ _ _

/-- Settles O10: both families are `State.alu` on their operand. -/
theorem eightBitArithmeticAndLogic : Obligations.EightBitArithmeticAndLogic := by
  unfold Obligations.EightBitArithmeticAndLogic
  intro o x n s
  refine ⟨⟨encode_alu o x, ?_⟩, encode_aluImm o n, ?_⟩
  · rw [exec_alu, State.aluR8, State.alu_eq_aluCpu, costOf_eq_ite, operand_eq_readR8]
    rfl
  · rw [exec_aluImm, State.aluImm, State.alu_eq_aluCpu]
    rfl

/-! ### INC and DEC (41_alu8.md R248 to R251) -/

theorem encode_inc (x : R8) : encode (.inc x) = [Claims.byte (0x04 + 8 * Claims.r8Code x)] := by cases x <;> rfl

theorem encode_dec (x : R8) : encode (.dec x) = [Claims.byte (0x05 + 8 * Claims.r8Code x)] := by cases x <;> rfl

/-- Settles O11: the moved operand is the exact number's byte, and H tests the old low nibble. -/
theorem eightBitIncrementAndDecrement : Obligations.EightBitIncrementAndDecrement := by
  unfold Obligations.EightBitIncrementAndDecrement
  intro x s
  simp only [operand_eq_readR8, withOperand_eq_writeR8, flags_eq_packF, s.cOf_eq_flagC, ← costOf_eq_ite]
  refine ⟨⟨encode_inc x, ?_⟩, encode_dec x, ?_⟩
  · have hw : (s.readR8 x + 1).toNat = ((s.readR8 x).toNat + 1) % 256 := BitVec.toNat_add _ _
    have hh : s.readR8 x &&& 0xF = 0xF ↔ (s.readR8 x).toNat % 16 = 15 := lowNibble_eq_iff _ _
    simp only [exec_inc, State.incR8, byte_of_toNat hw, decide_zero_of_toNat hw, hh]
    rfl
  · have hw : (s.readR8 x - 1).toNat = ((s.readR8 x).toNat + 255) % 256 := sub_toNat _ 1
    have hh : s.readR8 x &&& 0xF = 0x0 ↔ (s.readR8 x).toNat % 16 = 0 := lowNibble_eq_iff _ _
    simp only [exec_dec, State.decR8, byte_of_toNat hw, decide_zero_of_toNat hw, hh]
    rfl

end Sys2Proof.Machine
end

section

namespace Sys2Proof.Machine

/-! ### 16-bit arithmetic (10_state.md R31, R33; 42_alu16.md R265 to R267) -/

@[simp] theorem pairValue_eq_pair (c : Cpu) (p : R16) : Claims.pairValue c p = c.pair p := by cases p <;> rfl

theorem State.zOf_eq_flagZ (s : State) : Claims.zOf s.cpu = s.cpu.flagZ := (s.cond_eq_condHolds .z).symm

theorem encode_addHl (p : R16) : encode (.addHl p) = [Claims.byte (0x09 + 16 * Claims.pairCode p)] := by cases p <;> rfl

theorem encode_incPair (p : R16) : encode (.incPair p) = [Claims.byte (0x03 + 16 * Claims.pairCode p)] := by cases p <;> rfl

theorem encode_decPair (p : R16) : encode (.decPair p) = [Claims.byte (0x0B + 16 * Claims.pairCode p)] := by cases p <;> rfl

/-- Settles O12: the sum of the old HL and the pair, with the carries of `halfCarryAdd16` and `carryAdd16` and the old Z. -/
theorem sixteenBitAddition : Obligations.SixteenBitAddition := by
  unfold Obligations.SixteenBitAddition
  intro p s
  have hsum : BitVec.ofNat 16 (s.cpu.hl.toNat + (s.cpu.pair p).toNat) = s.cpu.hl + s.cpu.pair p := by
    rw [ofNat_toNat_add, BitVec.ofNat_toNat, BitVec.setWidth_eq]
  refine ⟨encode_addHl p, ?_⟩
  rw [exec_addHl, State.addHl, pairValue_eq_pair, withPair_eq_setPair, flags_eq_packF, s.zOf_eq_flagZ, ← hsum]
  rfl

/-- Settles O13: adding 65535 is subtracting 1 modulo 2^16, and setting a pair leaves F alone. -/
theorem sixteenBitIncrementAndDecrement : Obligations.SixteenBitIncrementAndDecrement := by
  unfold Obligations.SixteenBitIncrementAndDecrement
  intro p s
  have hdown : s.cpu.pair p - 1 = s.cpu.pair p + BitVec.ofNat 16 65535 := BitVec.sub_eq_add_neg _ _
  simp only [pairValue_eq_pair, withPair_eq_setPair, ofNat_toNat_add]
  refine ⟨⟨encode_incPair p, ?_⟩, encode_decPair p, ?_⟩
  · rw [exec_incPair, State.incPair]
    rfl
  · rw [exec_decPair, State.decPair, hdown]
    rfl

end Sys2Proof.Machine
end

section

namespace Sys2Proof.Machine

/-! ### Shifts and single bits of a byte in arithmetic (00_scope.md R10, R12) -/

theorem shiftLeft_toNat (v : Byte) (k : Nat) : (v <<< k).toNat = v.toNat * 2 ^ k % 256 := by
  rw [BitVec.toNat_shiftLeft, Nat.shiftLeft_eq]

theorem shiftRight_toNat (v : Byte) (k : Nat) : (v >>> k).toNat = v.toNat / 2 ^ k := by
  rw [BitVec.toNat_ushiftRight, Nat.shiftRight_eq_div_pow]

theorem bitOf_eq_decide (v : Byte) (i : Nat) : bitOf v i = decide (v.toNat / 2 ^ i % 2 = 1) := Nat.testBit_eq_decide_div_mod_eq

theorem bitOf_toNat (v : Byte) (i : Nat) : (bitOf v i).toNat = v.toNat / 2 ^ i % 2 := Nat.toNat_testBit _ _

/-- The top bit needs no remainder. -/
theorem topBit_toNat (v : Byte) : v.toNat / 2 ^ 7 % 2 = v.toNat / 128 := by omega

theorem bitOf_seven (v : Byte) : bitOf v 7 = decide (v.toNat / 128 = 1) := by rw [bitOf_eq_decide, topBit_toNat]

/-! ### Rotates and shifts (43_rotate_shift_bit.md R280 to R291) -/

/-- A shift left that takes c in at bit 0. -/
theorem shiftLeft_or_bit_toNat (v : Byte) (c : Bool) : ((v <<< 1) ||| byteOfBool c).toNat = v.toNat * 2 % 256 + c.toNat := by
  have hshift : (v <<< 1).toNat = v.toNat * 2 % 256 := shiftLeft_toNat v 1
  have hbit := byteOfBool_toNat c
  have hc := c.toNat_le
  rw [or_toNat_of_fields 1 (by omega) (by omega), hshift, hbit]

/-- A shift right that takes c in at bit 7. -/
theorem shiftRight_or_bit_toNat (v : Byte) (c : Bool) :
    ((v >>> 1) ||| (byteOfBool c <<< 7)).toNat = v.toNat / 2 + 128 * c.toNat := by
  have hshift : (v >>> 1).toNat = v.toNat / 2 := shiftRight_toNat v 1
  have hbit : (byteOfBool c <<< 7).toNat = 128 * c.toNat := by cases c <;> rfl
  rw [BitVec.or_comm, or_toNat_of_fields 7 (by omega) (by omega), hshift, hbit, Nat.add_comm]

/-- SRA keeps bit 7. -/
theorem shiftRight_or_sign_toNat (v : Byte) : ((v >>> 1) ||| (v &&& 0x80)).toNat = v.toNat / 2 + v.toNat / 128 * 128 := by
  have hshift : (v >>> 1).toNat = v.toNat / 2 := shiftRight_toNat v 1
  have hsign : (v &&& 0x80).toNat = v.toNat / 128 * 128 := by
    revert v
    decide
  rw [BitVec.or_comm, or_toNat_of_fields 7 (by omega) (by omega), hshift, hsign, Nat.add_comm]

theorem swapNibbles_toNat (v : Byte) : ((v <<< 4) ||| (v >>> 4)).toNat = v.toNat % 16 * 16 + v.toNat / 16 := by
  have hhigh : (v <<< 4).toNat = v.toNat * 16 % 256 := shiftLeft_toNat v 4
  have hlow : (v >>> 4).toNat = v.toNat / 16 := shiftRight_toNat v 4
  rw [or_toNat_of_fields 4 (by omega) (by omega), hhigh, hlow, Nat.mul_mod_mul_right 16 v.toNat 16]

theorem rotResult_value (o : RotOp) (v : Byte) (c : Bool) : (rotResult o v c).1.toNat = Claims.rotValue o v.toNat c.toNat := by
  cases o
  case rlc => rw [rotResult, shiftLeft_or_bit_toNat, bitOf_toNat, topBit_toNat, Claims.rotValue]
  case rrc => rw [rotResult, shiftRight_or_bit_toNat, bitOf_toNat, Nat.pow_zero, Nat.div_one, Claims.rotValue]
  case rl => exact shiftLeft_or_bit_toNat v c
  case rr => exact shiftRight_or_bit_toNat v c
  case sla => exact shiftLeft_toNat v 1
  case sra => exact shiftRight_or_sign_toNat v
  case swap => exact swapNibbles_toNat v
  case srl => exact shiftRight_toNat v 1

theorem rotResult_carry (o : RotOp) (v : Byte) (c : Bool) : (rotResult o v c).2 = Claims.rotCarry o v.toNat := by
  cases o
  case rlc | rl | sla => exact bitOf_seven v
  case rrc | rr | sra | srl => exact bitOf_zero v
  case swap => rfl

/-- Settles O15: the rotate's exact value and carry, once for the four operations. -/
theorem accumulatorRotates : Obligations.AccumulatorRotates := by
  unfold Obligations.AccumulatorRotates
  intro s cin out
  have rot (o : RotOp) : s.rotA o = out o := by
    simp only [out, cin, s.cOf_eq_flagC, flags_eq_packF, byte_of_toNat (rotResult_value o _ _), ← rotResult_carry o _ s.cpu.flagC]
    rfl
  simp only [← rot]
  exact ⟨⟨rfl, rfl⟩, ⟨rfl, rfl⟩, ⟨rfl, rfl⟩, ⟨rfl, rfl⟩⟩

/-! ### The encodings of the CB families (30_encoding.md R152, R157, R161) -/

theorem r8Code_ofCode : ∀ z : Fin 8, Claims.r8Code (R8.ofCode z) = z.val := by decide

theorem rotCode_ofCode : ∀ y : Fin 8, Claims.rotCode (RotOp.ofCode y) = y.val := by decide

theorem encode_rot (o : RotOp) (x : R8) : encode (.rot o x) = [0xCB, Claims.byte (8 * Claims.rotCode o + Claims.r8Code x)] := by
  obtain ⟨y, rfl⟩ := o.ofCode_surjective
  obtain ⟨z, rfl⟩ := x.ofCode_surjective
  rw [← decodeCb_rot, encode_decodeCb, cbByte, Fin.val_zero, Nat.mul_zero, Nat.zero_add, rotCode_ofCode, r8Code_ofCode]
  rfl

theorem encode_bit (b : Fin 8) (x : R8) : encode (.bit b x) = [0xCB, Claims.byte (0x40 + 8 * b.val + Claims.r8Code x)] := by
  obtain ⟨z, rfl⟩ := x.ofCode_surjective
  rw [← decodeCb_bit, encode_decodeCb, r8Code_ofCode]
  rfl

theorem encode_res (b : Fin 8) (x : R8) : encode (.res b x) = [0xCB, Claims.byte (0x80 + 8 * b.val + Claims.r8Code x)] := by
  obtain ⟨z, rfl⟩ := x.ofCode_surjective
  rw [← decodeCb_res, encode_decodeCb, r8Code_ofCode]
  rfl

theorem encode_set (b : Fin 8) (x : R8) : encode (.set b x) = [0xCB, Claims.byte (0xC0 + 8 * b.val + Claims.r8Code x)] := by
  obtain ⟨z, rfl⟩ := x.ofCode_surjective
  rw [← decodeCb_set, encode_decodeCb, r8Code_ofCode]
  rfl

/-- Settles O16: the exact value and carry of the operand's rotate or shift; Z tests that value. -/
theorem cbRotatesAndShifts : Obligations.CbRotatesAndShifts := by
  unfold Obligations.CbRotatesAndShifts
  intro o x s
  have hw := rotResult_value o (s.readR8 x) s.cpu.flagC
  have hc := rotResult_carry o (s.readR8 x) s.cpu.flagC
  refine ⟨encode_rot o x, ?_⟩
  simp only [operand_eq_readR8, withOperand_eq_writeR8, flags_eq_packF, s.cOf_eq_flagC, ← costOf_eq_ite, byte_of_toNat hw,
    decide_zero_of_toNat hw, ← hc, exec_rot]
  rfl

/-! ### BIT, RES and SET (43_rotate_shift_bit.md R292 to R294) -/

/-- Settles O17: the tested bit is 0 or 1. -/
theorem bitTests : Obligations.BitTests := by
  unfold Obligations.BitTests
  intro b x s
  have hz : decide ((s.readR8 x).toNat / 2 ^ b.val % 2 = 0) = !bitOf (s.readR8 x) b := by
    simp only [bitOf_eq_decide, ← decide_not, Nat.mod_two_not_eq_one]
  refine ⟨encode_bit b x, ?_⟩
  rw [exec_bit, operand_eq_readR8, flags_eq_packF, s.cOf_eq_flagC, ← costOf_eq_ite, hz]
  rfl

theorem eq_of_bitOf {v w : Byte} (h : ∀ i, bitOf v i = bitOf w i) : v = w := BitVec.eq_of_getLsbD_eq fun i _ => h i

theorem withBit_of_set {v : Byte} {b : Nat} (hb : b < 8) (h : bitOf v b = true) : withBit v b = v := by
  refine eq_of_bitOf fun i => ?_
  rw [bitOf_withBit v b i hb]
  obtain rfl | hne := eq_or_ne i b
  · rw [h, Bool.true_or]
  · rw [decide_eq_false hne, Bool.or_false]

theorem withoutBit_of_clear {v : Byte} {b : Nat} (hb : b < 8) (h : bitOf v b = false) : withoutBit v b = v := by
  refine eq_of_bitOf fun i => ?_
  rw [bitOf_withoutBit v b i hb]
  obtain rfl | hne := eq_or_ne i b
  · rw [h, Bool.false_and]
  · rw [decide_eq_false hne, Bool.not_false, Bool.and_true]

theorem withBit_withoutBit (v : Byte) {b : Nat} (hb : b < 8) : withBit (withoutBit v b) b = withBit v b := by
  refine eq_of_bitOf fun i => ?_
  rw [bitOf_withBit _ b i hb, bitOf_withBit v b i hb, bitOf_withoutBit v b i hb, Bool.or_and_distrib_right, Bool.not_or_self,
    Bool.and_true]

/-- Setting a bit that is 0 adds its place value: the two bytes have no bit in common. -/
theorem withBit_toNat_of_clear {v : Byte} {b : Nat} (hb : b < 8) (h : bitOf v b = false) : (withBit v b).toNat = v.toNat + 2 ^ b := by
  have hdisjoint : v &&& 1#8 <<< b = 0#8 := (BitVec.and_twoPow v b).trans (if_neg (Bool.eq_false_iff.mp h))
  have hplace : (1#8 <<< b).toNat = 2 ^ b := BitVec.toNat_twoPow_of_lt hb
  rw [withBit, ← BitVec.add_eq_or_of_and_eq_zero _ _ hdisjoint, BitVec.toNat_add_of_and_eq_zero hdisjoint, hplace]

theorem withBit_toNat (v : Byte) (b : Fin 8) :
    (withBit v b).toNat = if v.toNat / 2 ^ b.val % 2 = 1 then v.toNat else v.toNat + 2 ^ b.val := by
  have hb := bitOf_eq_decide v b
  split_ifs with h
  · rw [withBit_of_set b.isLt (hb.trans (decide_eq_true h))]
  · exact withBit_toNat_of_clear b.isLt (hb.trans (decide_eq_false h))

/-- Clearing a bit that is 1 takes its place value away, since setting it again gives it back. -/
theorem withoutBit_toNat (v : Byte) (b : Fin 8) :
    (withoutBit v b).toNat = if v.toNat / 2 ^ b.val % 2 = 1 then v.toNat - 2 ^ b.val else v.toNat := by
  have hb := bitOf_eq_decide v b
  split_ifs with h
  · have hback : withBit (withoutBit v b) b = v :=
      (withBit_withoutBit v b.isLt).trans (withBit_of_set b.isLt (hb.trans (decide_eq_true h)))
    have hclear : bitOf (withoutBit v b) b = false := by
      rw [bitOf_withoutBit v b b b.isLt, decide_eq_true rfl, Bool.not_true, Bool.and_false]
    have hsum := withBit_toNat_of_clear b.isLt hclear
    rw [hback] at hsum
    exact Nat.eq_sub_of_add_eq hsum.symm
  · rw [withoutBit_of_clear b.isLt (hb.trans (decide_eq_false h))]

/-- Settles O18: the written byte is the old number with the bit's place value taken away or added. -/
theorem bitResetAndSet : Obligations.BitResetAndSet := by
  unfold Obligations.BitResetAndSet
  intro b x s
  simp only [operand_eq_readR8, withOperand_eq_writeR8, ← costOf_eq_ite, byte_of_toNat (withoutBit_toNat _ b),
    byte_of_toNat (withBit_toNat _ b)]
  exact ⟨⟨encode_res b x, exec_res b x s⟩, encode_set b x, exec_set b x s⟩

end Sys2Proof.Machine
end

section

namespace Sys2Proof.Machine

/-! ### The encodings of the control transfers (30_encoding.md R155, R160) -/

theorem encode_jpCc (cc : Cond) (a : Word) :
    encode (.jpCc cc a) = [Claims.byte (0xC2 + 8 * Claims.ccCode cc), loByte a, hiByte a] := by
  cases cc <;> rfl

theorem encode_jrCc (cc : Cond) (e : Byte) : encode (.jrCc cc e) = [Claims.byte (0x20 + 8 * Claims.ccCode cc), e] := by cases cc <;> rfl

theorem encode_callCc (cc : Cond) (a : Word) :
    encode (.callCc cc a) = [Claims.byte (0xC4 + 8 * Claims.ccCode cc), loByte a, hiByte a] := by
  cases cc <;> rfl

theorem encode_retCc (cc : Cond) : encode (.retCc cc) = [Claims.byte (0xC0 + 8 * Claims.ccCode cc)] := by cases cc <;> rfl

theorem encode_rst (y : Fin 8) : encode (.rst y) = [Claims.byte (0xC7 + 8 * y.val)] := by fin_cases y <;> rfl

/-! ### Control transfer (44_control.md R310 to R321) -/

/-- Settles O19: PC takes the target; a relative target is PC plus the sign-extended byte. -/
theorem jumps : Obligations.Jumps := by
  unfold Obligations.Jumps
  intro cc a e s
  simp only [lowPart_eq_loByte, highPart_eq_hiByte, plusSigned_eq_add_sext16, ← s.cond_eq_condHolds]
  exact ⟨⟨rfl, rfl⟩, ⟨encode_jpCc cc a, exec_jpCc cc a s⟩, ⟨rfl, rfl⟩, ⟨rfl, rfl⟩, encode_jrCc cc e, exec_jrCc cc e s⟩

/-- `Push16(PC); PC <- a`: the two writes of the push leave the rest of the CPU alone (R316, R320). -/
theorem State.call_eq_pushed (s : State) (a : Word) (n : Nat) :
    s.call a n = { Claims.pushed s s.cpu.pc with cpu := { s.cpu with sp := s.cpu.sp - 2, pc := a }, stepCycles := n } := by
  rw [State.call, State.push16_eq, Claims.pushed, highPart_eq_hiByte, lowPart_eq_loByte]
  rfl

/-- Settles O20: every form is `State.call` at its target, of which RST has eight. -/
theorem callsAndRestarts : Obligations.CallsAndRestarts := by
  unfold Obligations.CallsAndRestarts
  intro cc a y s
  simp only [lowPart_eq_loByte, highPart_eq_hiByte, ← s.cond_eq_condHolds, ← s.call_eq_pushed]
  exact ⟨⟨rfl, rfl⟩, ⟨encode_callCc cc a, exec_callCc cc a s⟩, encode_rst y, exec_rst y s⟩

/-- Settles O21: the popped word is read before SP moves, and RETI then sets IME. -/
theorem returns : Obligations.Returns := by
  unfold Obligations.Returns
  intro cc s
  rw [← s.cond_eq_condHolds]
  exact ⟨⟨rfl, rfl⟩, ⟨encode_retCc cc, exec_retCc cc s⟩, rfl, rfl⟩

end Sys2Proof.Machine
end

section

namespace Sys2Proof.Machine

/-! ### Control, suspend and illegal bytes (45_misc.md R330 to R336) -/

/-- Settles O22: each sets its one bit of the CPU; STOP ignores its second byte. -/
theorem nopHaltAndStop : Obligations.NopHaltAndStop := by
  unfold Obligations.NopHaltAndStop
  intro n s
  exact ⟨⟨rfl, rfl⟩, ⟨rfl, rfl⟩, rfl, rfl⟩

theorem encode_illegal {p : Byte × Instr} (h : p ∈ Instr.illegalBytes) : encode p.2 = [p.1] := by
  have key : ∀ p ∈ Instr.illegalBytes, encode p.2 = [p.1] := by decide
  exact key p h

/-- Settles O23: the eleven pairs are `Instr.illegalBytes`, and each byte's meaning is `State.illegal` at that byte. -/
theorem illegalOpcodesAreDiagnosedNoOps : Obligations.IllegalOpcodesAreDiagnosedNoOps := by
  unfold Obligations.IllegalOpcodesAreDiagnosedNoOps
  intro s op i h
  exact ⟨encode_illegal h, exec_illegal h s⟩

theorem State.enableInts_delayed {s : State} (h : s.par.eiDelay = true) :
    s.enableInts = { s with cpu := { s.cpu with imePending := true }, stepCycles := 4 } := by
  rw [State.enableInts, if_pos h]
  rfl

theorem State.enableInts_atOnce {s : State} (h : s.par.eiDelay = false) :
    s.enableInts = { s with cpu := { s.cpu with ime := true }, stepCycles := 4 } := by
  rw [State.enableInts, if_neg (Bool.eq_false_iff.mp h)]
  rfl

/-- Settles O24: EI by the two values of EI_DELAY. -/
theorem disableAndEnableInterrupts : Obligations.DisableAndEnableInterrupts := by
  unfold Obligations.DisableAndEnableInterrupts
  intro s
  have hei : exec .ei s = .next s.enableInts := rfl
  refine ⟨⟨rfl, rfl⟩, rfl, ?_⟩
  cases hdelay : s.par.eiDelay
  · rw [hei, State.enableInts_atOnce hdelay]
    rfl
  · rw [hei, State.enableInts_delayed hdelay]
    rfl

/-! ### The flags in arithmetic (10_state.md R33) -/

theorem State.nOf_eq_flagN (s : State) : Claims.nOf s.cpu = s.cpu.flagN := (bitOf_eq_decide _ 6).symm

theorem State.hOf_eq_flagH (s : State) : Claims.hOf s.cpu = s.cpu.flagH := (bitOf_eq_decide _ 5).symm

theorem not_toNat (v : Byte) : (~~~v).toNat = 255 - v.toNat := BitVec.toNat_not

/-- Settles O26: the complement is 255 - A; the kept flags are written back as they were. -/
theorem complementAndCarryInstructions : Obligations.ComplementAndCarryInstructions := by
  unfold Obligations.ComplementAndCarryInstructions
  intro s
  simp only [byte_of_toNat (not_toNat s.cpu.a), flags_eq_packF, s.zOf_eq_flagZ, s.cOf_eq_flagC]
  exact ⟨⟨rfl, rfl⟩, ⟨rfl, rfl⟩, rfl, rfl⟩

/-! ### The byte 0xCB with its CB byte (45_misc.md R331) -/

/-- A CB byte's meaning and its instruction's go by the same fields (30_encoding.md R161). -/
theorem exec_decodeCb (cb : Byte) (s : State) : exec (decodeCb cb) s = .next (s.cbByte cb) := by
  unfold decodeCb State.cbByte
  generalize fieldX cb = x
  match x with
  | 0 => exact exec_rot _ _ s
  | 1 => exact exec_bit _ _ s
  | 2 => exact exec_res _ _ s
  | 3 => exact exec_set _ _ s

theorem decodeCb_ne_prefixCb (cb n : Byte) : decodeCb cb ≠ .prefixCb n := fun h => by
  have hwf := wf_decodeCb cb
  rw [h] at hwf
  exact Bool.noConfusion hwf

/-- Settles O27: the instruction is the CB map's cell of the byte. -/
theorem prefixExecutesTheCbInstruction : Obligations.PrefixExecutesTheCbInstruction := by
  unfold Obligations.PrefixExecutesTheCbInstruction
  intro cb s
  exact ⟨rfl, decodeCb cb, s.cbByte cb, decode_cb rfl cb [], decodeCb_ne_prefixCb cb cb, exec_decodeCb cb s, rfl⟩

/-! ### DAA (45_misc.md R337) -/

theorem lowNibble_toNat (v : Byte) : (v &&& 0x0F).toNat = v.toNat % 16 :=
  (BitVec.toNat_and v 0x0F).trans (Nat.and_two_pow_sub_one_eq_mod v.toNat 4)

/-- An adjustment that is made or not. -/
theorem ite_toNat (p : Prop) [Decidable p] (k : Byte) : (if p then k else 0).toNat = if p then k.toNat else 0 := by
  split <;> rfl

theorem daaResult_add_value (a : Byte) (h c : Bool) :
    (daaResult a false h c).1.toNat =
      (a.toNat + (if c = true ∨ a.toNat > 0x99 then 0x60 else 0) + (if h = true ∨ a.toNat % 16 > 9 then 0x06 else 0)) % 256 := by
  simp only [daaResult, if_true, decide_eq_true_eq, lowNibble_toNat, BitVec.toNat_add, ite_toNat, Nat.mod_add_mod]
  rfl

theorem daaResult_add_carry (a : Byte) (h c : Bool) :
    (daaResult a false h c).2 = decide (c = true ∨ a.toNat > 0x99) := by
  cases c <;> rfl

theorem daaResult_sub_value (a : Byte) (h c : Bool) :
    (daaResult a true h c).1.toNat = (a.toNat + 512 - (if c then 0x60 else 0) - (if h then 0x06 else 0)) % 256 := by
  have hhigh : (if c then (0x60 : Byte) else 0).toNat = if c then 0x60 else 0 := ite_toNat _ _
  have hlow : (if h then (0x06 : Byte) else 0).toNat = if h then 0x06 else 0 := ite_toNat _ _
  have hle : (if c then 0x60 else 0) ≤ 0x60 := by split <;> decide
  have hle' : (if h then 0x06 else 0) ≤ 0x06 := by split <;> decide
  change (a - (if c then (0x60 : Byte) else 0) - (if h then (0x06 : Byte) else 0)).toNat = _
  rw [sub_toNat, sub_toNat, hhigh, hlow]
  omega

theorem daaResult_sub_carry (a : Byte) (h c : Bool) : (daaResult a true h c).2 = c := rfl

/-- DAA with its result known as an exact number. -/
theorem State.daa_of_toNat (s : State) {k : Nat} {c : Bool}
    (hr : (daaResult s.cpu.a s.cpu.flagN s.cpu.flagH s.cpu.flagC).1.toNat = k)
    (hc : (daaResult s.cpu.a s.cpu.flagN s.cpu.flagH s.cpu.flagC).2 = c) :
    s.daa =
      { s with
        cpu := { s.cpu with a := Claims.byte k, f := Claims.flags (decide (k = 0)) s.cpu.flagN false c },
        stepCycles := 4 } := by
  change (s.setAcc _ s.cpu.flagN false _).withCycles 4 = _
  rw [s.setAcc_of_toNat hr, hc]
  rfl

/-- Settles O25: the addition and the subtraction case of `daaResult` in exact numbers. -/
theorem decimalAdjust : Obligations.DecimalAdjust := by
  unfold Obligations.DecimalAdjust
  intro s
  simp only [s.cOf_eq_flagC, s.nOf_eq_flagN, s.hOf_eq_flagH]
  refine ⟨rfl, congrArg Host.Outcome.next (s.daa_of_toNat ?_ ?_)⟩
  · cases s.cpu.flagN
    · exact daaResult_add_value _ _ _
    · exact daaResult_sub_value _ _ _
  · cases s.cpu.flagN
    · exact daaResult_add_carry _ _ _
    · exact daaResult_sub_carry _ _ _

/-! ### Decimal arithmetic -/

theorem exists_digits {n : Nat} (h : n < 100) : ∃ p q, p < 10 ∧ q < 10 ∧ n = 10 * p + q :=
  ⟨n / 10, n % 10, by omega, Nat.mod_lt _ (by decide), (Nat.div_add_mod n 10).symm⟩

theorem bcd_toNat_of_digits {n p q : Nat} (hp : p < 10) (hq : q < 10) (h : n = 10 * p + q) : (Claims.bcd n).toNat = 16 * p + q := by
  rw [Claims.bcd, Claims.byte, BitVec.toNat_ofNat]
  omega

/-- DAA's correction of a sum: the low digit's carry is worth 16 and not 10, the number's 256 and not 160. -/
theorem digitSum_adjusted {p q r t : Nat} (hp : p < 10) (hq : q < 10) (hr : r < 10) (ht : t < 10) :
    ((16 * p + q + (16 * r + t)) % 256 + (if 100 ≤ 10 * p + q + (10 * r + t) then 0x60 else 0) + (if 10 ≤ q + t then 0x06 else 0)) %
        256 =
      16 * ((p + r + (q + t) / 10) % 10) + (q + t) % 10 := by
  split_ifs <;> omega

/-- DAA's correction of a difference: likewise for the borrows. -/
theorem digitDifference_adjusted {p q r t : Nat} (hp : p < 10) (hq : q < 10) (hr : r < 10) (ht : t < 10) :
    ((16 * p + q + 256 - (16 * r + t)) % 256 + 512 - (if 10 * p + q < 10 * r + t then 0x60 else 0) - (if q < t then 0x06 else 0)) %
        256 =
      16 * ((p + 9 + (q + 10 - t) / 10 - r) % 10) + (q + 10 - t) % 10 := by
  split_ifs <;> omega

/-- The sum of two decimal numbers, adjusted: the low adjustment is made when the low digits carry, the high one when the numbers do. -/
theorem daaResult_bcd_add {x y : Nat} (hx : x < 100) (hy : y < 100) :
    daaResult (Claims.bcd x + Claims.bcd y) false (halfCarryAdd (Claims.bcd x) (Claims.bcd y) false)
        (carryAdd (Claims.bcd x) (Claims.bcd y) false) =
      (Claims.bcd ((x + y) % 100), decide (100 ≤ x + y)) := by
  obtain ⟨p, q, hp, hq, rfl⟩ := exists_digits hx
  obtain ⟨r, t, hr, ht, rfl⟩ := exists_digits hy
  have ha := bcd_toNat_of_digits hp hq rfl
  have hb := bcd_toNat_of_digits hr ht rfl
  have hresult : (Claims.bcd ((10 * p + q + (10 * r + t)) % 100)).toNat = 16 * ((p + r + (q + t) / 10) % 10) + (q + t) % 10 :=
    bcd_toNat_of_digits (by omega) (by omega) (by omega)
  generalize Claims.bcd (10 * p + q) = a at ha ⊢
  generalize Claims.bcd (10 * r + t) = b at hb ⊢
  have hsum : (a + b).toNat = (16 * p + q + (16 * r + t)) % 256 := by rw [BitVec.toNat_add, ha, hb]
  have hhigh : carryAdd a b false = true ∨ (a + b).toNat > 0x99 ↔ 100 ≤ 10 * p + q + (10 * r + t) := by
    rw [carryAdd, decide_eq_true_eq, hsum, ha, hb, Bool.toNat_false]
    omega
  have hlow : halfCarryAdd a b false = true ∨ (a + b).toNat % 16 > 9 ↔ 10 ≤ q + t := by
    rw [halfCarryAdd, decide_eq_true_eq, hsum, ha, hb, Bool.toNat_false]
    omega
  refine Prod.ext (BitVec.eq_of_toNat_eq ?_) ?_
  · rw [daaResult_add_value, if_congr hhigh rfl rfl, if_congr hlow rfl rfl, hsum, hresult]
    exact digitSum_adjusted hp hq hr ht
  · rw [daaResult_add_carry, decide_eq_decide]
    exact hhigh

/-- The difference of two decimal numbers, adjusted: the low adjustment is made when the low digits borrow, the high one when the
numbers do. -/
theorem daaResult_bcd_sub {x y : Nat} (hx : x < 100) (hy : y < 100) :
    daaResult (Claims.bcd x - Claims.bcd y) true (halfBorrow (Claims.bcd x) (Claims.bcd y) false)
        (borrow (Claims.bcd x) (Claims.bcd y) false) =
      (Claims.bcd ((x + 100 - y) % 100), decide (x < y)) := by
  obtain ⟨p, q, hp, hq, rfl⟩ := exists_digits hx
  obtain ⟨r, t, hr, ht, rfl⟩ := exists_digits hy
  have ha := bcd_toNat_of_digits hp hq rfl
  have hb := bcd_toNat_of_digits hr ht rfl
  have hresult : (Claims.bcd ((10 * p + q + 100 - (10 * r + t)) % 100)).toNat =
      16 * ((p + 9 + (q + 10 - t) / 10 - r) % 10) + (q + 10 - t) % 10 :=
    bcd_toNat_of_digits (by omega) (by omega) (by omega)
  generalize Claims.bcd (10 * p + q) = a at ha ⊢
  generalize Claims.bcd (10 * r + t) = b at hb ⊢
  have hdiff : (a - b).toNat = (16 * p + q + 256 - (16 * r + t)) % 256 := by rw [sub_toNat, ha, hb]
  have hhigh : borrow a b false = true ↔ 10 * p + q < 10 * r + t := by
    rw [borrow, decide_eq_true_eq, ha, hb, Bool.toNat_false]
    omega
  have hlow : halfBorrow a b false = true ↔ q < t := by
    rw [halfBorrow, decide_eq_true_eq, ha, hb, Bool.toNat_false]
    omega
  refine Prod.ext (BitVec.eq_of_toNat_eq ?_) ?_
  · rw [daaResult_sub_value, if_congr hhigh rfl rfl, if_congr hlow rfl rfl, hdiff, hresult]
    exact digitDifference_adjusted hp hq hr ht
  · exact Bool.eq_iff_iff.mpr (hhigh.trans decide_eq_true_iff.symm)

/-- DAA right after an ALU result with its flags. -/
theorem State.daa_setAcc (s : State) (r : Byte) (n h c : Bool) (k : Nat) :
    ((s.setAcc r n h c).withCycles k).daa.cpu.a = (daaResult r n h c).1 ∧
      Claims.cOf ((s.setAcc r n h c).withCycles k).daa.cpu = (daaResult r n h c).2 := by
  have hn : ((s.setAcc r n h c).withCycles k).cpu.flagN = n := bitOf_packF_6 _ _ _ _
  have hh : ((s.setAcc r n h c).withCycles k).cpu.flagH = h := bitOf_packF_5 _ _ _ _
  have hc : ((s.setAcc r n h c).withCycles k).cpu.flagC = c := bitOf_packF_4 _ _ _ _
  rw [State.cOf_eq_flagC, State.daa, hn, hh, hc]
  exact ⟨rfl, bitOf_packF_4 _ _ _ _⟩

/-- Settles O52: DAA sees the sum or difference of the two digit bytes with that operation's own H and C. -/
theorem decimalAdjustIsDecimalArithmetic : Obligations.DecimalAdjustIsDecimalArithmetic := by
  unfold Obligations.DecimalAdjustIsDecimalArithmetic
  intro s x y hx hy ha
  refine ⟨⟨s.aluImm .add (Claims.bcd y), _, rfl, rfl, ?_⟩, s.aluImm .sub (Claims.bcd y), _, rfl, rfl, ?_⟩
  · obtain ⟨hacc, hcarry⟩ := s.daa_setAcc (s.cpu.a + Claims.bcd y) false (halfCarryAdd s.cpu.a (Claims.bcd y) false)
      (carryAdd s.cpu.a (Claims.bcd y) false) 8
    rw [ha, daaResult_bcd_add hx hy] at hacc hcarry
    rw [State.aluImm, State.alu, ha]
    exact ⟨hacc, hcarry⟩
  · obtain ⟨hacc, hcarry⟩ := s.daa_setAcc (s.cpu.a - Claims.bcd y) true (halfBorrow s.cpu.a (Claims.bcd y) false)
      (borrow s.cpu.a (Claims.bcd y) false) 8
    rw [ha, daaResult_bcd_sub hx hy] at hacc hcarry
    rw [State.aluImm, State.alu, ha]
    exact ⟨hacc, hcarry⟩

end Sys2Proof.Machine
end

section

namespace Sys2Proof.Machine

/-! ### The step's parts in the claims' terms (60_exceptions.md R400, R401, R417, R418; 70_reset_and_hazards.md R505) -/

theorem State.beginStep_eq_begun (s : State) : s.beginStep = Claims.begun s := by
  unfold State.beginStep Claims.begun
  cases hboot : s.booting
  · rw [if_neg fun h => Bool.noConfusion h.1, Bool.false_and, ← hboot]
  · by_cases hpc : 0x0100 ≤ s.cpu.pc.toNat
    · rw [if_pos ⟨rfl, hpc⟩, decide_eq_false (by omega), Bool.and_false]
    · rw [if_neg fun h => hpc h.2, decide_eq_true (by omega), Bool.and_true, ← hboot]

@[simp] theorem State.beginStep_cpu (s : State) : s.beginStep.cpu = s.cpu := by rw [s.beginStep_eq_begun]; rfl

@[simp] theorem State.beginStep_par (s : State) : s.beginStep.par = s.par := by rw [s.beginStep_eq_begun]; rfl

@[simp] theorem State.beginStep_totalCycles (s : State) : s.beginStep.totalCycles = s.totalCycles := by
  rw [s.beginStep_eq_begun]; rfl

theorem State.stopped_iff_stoppedBy (s : State) : s.stopped = true ↔ Claims.stoppedBy s := by
  simp only [State.stopped, Claims.stoppedBy, Bool.and_eq_true, decide_eq_true_eq]

theorem State.suspended_eq_false {s : State} (hhalt : s.cpu.halt = false) (hstop : s.stopped = false) : s.suspended = false := by
  rw [State.suspended, hhalt, hstop]
  rfl

theorem State.suspended_of_stopped {s : State} (h : s.stopped = true) : s.suspended = true := by
  rw [State.suspended, h, Bool.or_true]

/-- Fetching an instruction of one byte (R400). -/
theorem State.fetch_op {s : State} {op : Byte} {i : Instr} (hread : s.memRead s.cpu.pc = op) (hop : baseFormat op = .op i) :
    s.fetch = .ok (i, s.setPc (s.cpu.pc + 1)) := by
  rw [State.fetch, State.fetchBytes, hread, decode_op hop]
  rfl

theorem State.handleInterrupts_of_stopped {s : State} (h : s.stopped = true) : s.handleInterrupts = (s, 0) := by
  rw [State.handleInterrupts, if_pos h]

/-- With IME clear a running CPU's check does nothing, whatever IF and IE hold (R417). -/
theorem State.handleInterrupts_of_running {s : State} (hime : s.cpu.ime = false) (hhalt : s.cpu.halt = false) :
    s.handleInterrupts = (s, 0) := by
  simp only [State.handleInterrupts, hime, hhalt, Bool.false_eq_true, false_and, and_false, if_false, ite_self]

/-- A system step whose check does nothing (R505). -/
theorem State.finishStep_of_noInterrupt {s : State}
    (h : (s.devicesUpdate s.stepCycles).handleInterrupts = (s.devicesUpdate s.stepCycles, 0)) :
    s.finishStep =
      { (s.devicesUpdate s.stepCycles).promoteIme with
        stepCycles := s.stepCycles, totalCycles := s.totalCycles + s.stepCycles } := by
  rw [State.finishStep]
  simp only [h]
  rfl

theorem State.promoteIme_of_notPending {s : State} (h : s.cpu.imePending = false) : s.promoteIme = s := by
  rw [State.promoteIme, if_neg (Bool.eq_false_iff.mp h)]

theorem State.promoteIme_of_pending {s : State} (h : s.cpu.imePending = true) :
    s.promoteIme = { s with cpu := { s.cpu with ime := true, imePending := false } } := by
  rw [State.promoteIme, if_pos h]

@[simp] theorem State.devicesUpdate_cpu (s : State) (c : Nat) : (s.devicesUpdate c).cpu = s.cpu := by
  rw [State.devicesUpdate, State.timerUpdate_cpu, State.ppuUpdate_cpu]

/-! ### The step of EI (45_misc.md R336; 70_reset_and_hazards.md R511) -/

/-- The end of a step that EI leaves: the check runs with IME still 0 and consumes no cycles, and EI's effect comes after it. -/
theorem State.finishStep_of_eiPending {s : State} (hime : s.cpu.ime = false) (hhalt : s.cpu.halt = false)
    (hpending : s.cpu.imePending = true) :
    s.finishStep.cpu = { s.cpu with ime := true, imePending := false } ∧ s.finishStep.stepCycles = s.stepCycles := by
  have hcpu := s.devicesUpdate_cpu s.stepCycles
  have hcheck := State.handleInterrupts_of_running (hcpu.symm ▸ hime) (hcpu.symm ▸ hhalt)
  rw [State.finishStep_of_noInterrupt hcheck, State.promoteIme_of_pending (hcpu.symm ▸ hpending), hcpu]
  exact ⟨rfl, rfl⟩

/-- Settles O40: the step fetches EI, which leaves IME 0 and `ime_pending` 1 for the step's end. -/
theorem theStepOfEiDispatchesNothing : Obligations.TheStepOfEiDispatchesNothing := by
  unfold Obligations.TheStepOfEiDispatchesNothing
  intro s hdelay hhalt hstop hime hread
  have hstopped : s.beginStep.stopped = false := by
    rw [Bool.eq_false_iff, ne_eq, State.stopped_iff_stoppedBy, Claims.stoppedBy, s.beginStep_cpu, s.beginStep_par]
    exact hstop
  have hrunning : s.beginStep.suspended = false := State.suspended_eq_false (by rw [s.beginStep_cpu, hhalt]) hstopped
  have hfetch : s.beginStep.fetch = .ok (.ei, s.beginStep.setPc (s.cpu.pc + 1)) := by
    rw [← s.beginStep_eq_begun] at hread
    rw [← s.beginStep_cpu] at hread ⊢
    exact State.fetch_op hread rfl
  let u := s.beginStep.setPc (s.cpu.pc + 1)
  have hcpu : u.cpu = { s.cpu with pc := s.cpu.pc + 1 } := by rw [State.setPc_cpu, s.beginStep_cpu]
  have hei : u.enableInts = { u with cpu := { u.cpu with imePending := true }, stepCycles := 4 } :=
    State.enableInts_delayed (s.beginStep_par.symm ▸ hdelay)
  refine ⟨u.enableInts.finishStep, step_of_fetch hrunning hfetch, ?_⟩
  rw [hei, hcpu]
  exact State.finishStep_of_eiPending hime hhalt rfl

/-! ### A CPU that sleeps (60_exceptions.md R401, R418) -/

/-- t agrees with s on the parameters, the CPU and the memories, none of which the passing of time changes; the devices' registers, IF,
`booting` and the cycle counts may differ. -/
structure State.SameButTime (s t : State) : Prop where
  par : t.par = s.par
  cpu : t.cpu = s.cpu
  mem : t.mem = s.mem
  cart : t.cart = s.cart
  ie : t.ie = s.ie
  vram0 : t.ppu.vram0 = s.ppu.vram0
  vram1 : t.ppu.vram1 = s.ppu.vram1
  oam : t.ppu.oam = s.ppu.oam
  bgPal : t.ppu.bgPal = s.ppu.bgPal

theorem State.SameButTime.refl (s : State) : s.SameButTime s := ⟨rfl, rfl, rfl, rfl, rfl, rfl, rfl, rfl, rfl⟩

theorem State.SameButTime.trans {s t u : State} (h : s.SameButTime t) (h' : t.SameButTime u) : s.SameButTime u :=
  ⟨h'.par.trans h.par, h'.cpu.trans h.cpu, h'.mem.trans h.mem, h'.cart.trans h.cart, h'.ie.trans h.ie, h'.vram0.trans h.vram0,
    h'.vram1.trans h.vram1, h'.oam.trans h.oam, h'.bgPal.trans h.bgPal⟩

theorem State.devicesUpdate_sameButTime (s : State) (c : Nat) : s.SameButTime (s.devicesUpdate c) := by
  obtain ⟨h0, h1, hoam, hpal⟩ := s.ppuUpdate_memories c
  have hppu : (s.devicesUpdate c).ppu = (s.ppuUpdate c).ppu := State.timerUpdate_ppu _ _
  rw [← hppu] at h0 h1 hoam hpal
  exact ⟨(State.timerUpdate_par _ _).trans (s.ppuUpdate_par c), s.devicesUpdate_cpu c,
    (State.timerUpdate_mem _ _).trans (s.ppuUpdate_mem c), (State.timerUpdate_cart _ _).trans (s.ppuUpdate_cart c),
    (State.timerUpdate_ie _ _).trans (s.ppuUpdate_ie c), h0, h1, hoam, hpal⟩

/-- The CPU sleeps, and stays so under the passing of time alone: EI has nothing pending, the step is the idle step, and the interrupt
check does nothing. -/
structure State.Sleeps (s : State) : Prop where
  notPending : s.cpu.imePending = false
  suspended : ∀ t, s.SameButTime t → t.suspended = true
  noInterrupt : ∀ t, s.SameButTime t → t.handleInterrupts = (t, 0)

theorem State.Sleeps.of_sameButTime {s t : State} (h : s.Sleeps) (hst : s.SameButTime t) : t.Sleeps :=
  ⟨hst.cpu ▸ h.notPending, fun u htu => h.suspended u (hst.trans htu), fun u htu => h.noInterrupt u (hst.trans htu)⟩

/-- One step of a sleeping CPU (R401). -/
theorem State.Sleeps.step {s : State} (h : s.Sleeps) :
    ∃ t, step s = .next t ∧ s.SameButTime t ∧ t.totalCycles = s.totalCycles + s.par.haltIdleCycles := by
  have hbegin : s.SameButTime s.beginStep := by
    rw [s.beginStep_eq_begun]
    exact ⟨rfl, rfl, rfl, rfl, rfl, rfl, rfl, rfl, rfl⟩
  have hidle : s.SameButTime s.beginStep.idle := hbegin.trans ⟨rfl, rfl, rfl, rfl, rfl, rfl, rfl, rfl, rfl⟩
  have hdevices := hidle.trans (s.beginStep.idle.devicesUpdate_sameButTime s.beginStep.idle.stepCycles)
  have hpending := hdevices.cpu ▸ h.notPending
  refine ⟨_, step_of_suspended (h.suspended _ hbegin), ?_, ?_⟩
  all_goals rw [State.finishStep_of_noInterrupt (h.noInterrupt _ hdevices), State.promoteIme_of_notPending hpending]
  · exact hdevices.trans ⟨rfl, rfl, rfl, rfl, rfl, rfl, rfl, rfl, rfl⟩
  · rw [← s.beginStep_par, ← s.beginStep_totalCycles]
    rfl

/-- Any number of steps of a sleeping CPU. -/
theorem State.Sleeps.run {s : State} (h : s.Sleeps) (n : Nat) :
    ∃ t, Host.Core.run Sys2Proof.core n s = .next t ∧ s.SameButTime t ∧
      t.totalCycles = s.totalCycles + n * s.par.haltIdleCycles := by
  induction n generalizing s with
  | zero => exact ⟨s, rfl, .refl s, by rw [Nat.zero_mul, Nat.add_zero]⟩
  | succ n ih =>
    obtain ⟨t, hstep, hst, htime⟩ := h.step
    obtain ⟨u, hrun, htu, htime'⟩ := ih (h.of_sameButTime hst)
    refine ⟨u, (core_run_succ n hstep).trans hrun, hst.trans htu, ?_⟩
    rw [htime', htime, hst.par, Nat.succ_mul, Nat.add_assoc, Nat.add_comm (n * _)]

theorem State.sleeps_of_stopped {s : State} (hstop : s.stopped = true) (hpending : s.cpu.imePending = false) : s.Sleeps := by
  have still {t : State} (h : s.SameButTime t) : t.stopped = true := by rwa [State.stopped, h.cpu, h.par]
  exact ⟨hpending, fun _ h => State.suspended_of_stopped (still h), fun _ h => State.handleInterrupts_of_stopped (still h)⟩

/-- Settles O41: a stopped CPU sleeps. -/
theorem stopHoldsUntilAButtonPress : Obligations.StopHoldsUntilAButtonPress := by
  unfold Obligations.StopHoldsUntilAButtonPress
  intro n s k hstop hpending
  obtain ⟨t, hrun, hsame, htime⟩ := (State.sleeps_of_stopped (s.stopped_iff_stoppedBy.2 hstop) hpending).run n
  obtain ⟨-, hcpu, hmem, hcart, hie, h0, h1, hoam, hpal⟩ := hsame
  exact ⟨rfl, t, hrun, hcpu, hmem, hcart, hie, h0, h1, hoam, hpal, htime⟩

end Sys2Proof.Machine
end

section

namespace Sys2Proof.Machine

/-! ### No instruction and no step faults (60_exceptions.md R403, 45_misc.md R334) -/

/-- Family by family, the meaning is a next state; the instructions that stand alone answer one by definition. -/
theorem exec_answers (i : Instr) (s : State) : ∃ t, exec i s = .next t := by
  cases i using Instr.byFamily
  case ldReg rd rs => exact ⟨_, exec_ldReg rd rs s⟩
  case ldRegHl rd => exact ⟨_, exec_ldRegHl rd s⟩
  case ldHlReg rs => exact ⟨_, exec_ldHlReg rs s⟩
  case ldImm8 x n => exact ⟨_, exec_ldImm8 x n s⟩
  case ldPair p n => exact ⟨_, exec_ldPair p n s⟩
  case push p => exact ⟨_, exec_push p s⟩
  case pop p => exact ⟨_, exec_pop p s⟩
  case alu o x => exact ⟨_, exec_alu o x s⟩
  case aluImm o n => exact ⟨_, exec_aluImm o n s⟩
  case inc x => exact ⟨_, exec_inc x s⟩
  case dec x => exact ⟨_, exec_dec x s⟩
  case addHl p => exact ⟨_, exec_addHl p s⟩
  case incPair p => exact ⟨_, exec_incPair p s⟩
  case decPair p => exact ⟨_, exec_decPair p s⟩
  case jrCc cc e => exact ⟨_, exec_jrCc cc e s⟩
  case jpCc cc a => exact ⟨_, exec_jpCc cc a s⟩
  case callCc cc a => exact ⟨_, exec_callCc cc a s⟩
  case retCc cc => exact ⟨_, exec_retCc cc s⟩
  case rst y => exact ⟨_, exec_rst y s⟩
  case rot o x => exact ⟨_, exec_rot o x s⟩
  case bit b x => exact ⟨_, exec_bit b x s⟩
  case res b x => exact ⟨_, exec_res b x s⟩
  case set b x => exact ⟨_, exec_set b x s⟩
  case illegal p hp => exact ⟨_, exec_illegal hp s⟩
  all_goals exact ⟨_, rfl⟩

/-- The three bytes at PC always hold an instruction (30_encoding.md R160 to R162). -/
theorem State.fetch_answers (s : State) : ∃ i u, s.fetch = .ok (i, u) := by
  obtain ⟨i, rest, hdec, -⟩ := everyByteSequenceDecodes (s.memRead s.cpu.pc) (s.memRead (s.cpu.pc + 1)) (s.memRead (s.cpu.pc + 2))
  exact ⟨i, s.setPc (s.cpu.pc + BitVec.ofNat 16 (3 - rest.length)), by rw [State.fetch, State.fetchBytes, hdec]⟩

theorem step_answers (s : State) : ∃ t, step s = .next t := by
  cases hs : s.beginStep.suspended
  case true => exact ⟨_, step_of_suspended hs⟩
  case false =>
    obtain ⟨i, u, hfetch⟩ := s.beginStep.fetch_answers
    obtain ⟨t, hexec⟩ := exec_answers i u
    exact ⟨t.finishStep, by rw [step_of_fetch hs hfetch, hexec]⟩

/-- Settles O34: every family answers, and so does a step, idle or not. -/
theorem everyInstructionAndEveryStepAnswers : Obligations.EveryInstructionAndEveryStepAnswers := by
  unfold Obligations.EveryInstructionAndEveryStepAnswers
  exact ⟨exec_answers, step_answers⟩

end Sys2Proof.Machine
end

section

namespace Sys2Proof.Machine

/-! ### The interrupt check (60_exceptions.md R411, R413 to R418) -/

/-- R411's mask: bit i of `IF & IE & 0x1F`. -/
theorem State.bitOf_pending (s : State) (i : Nat) : bitOf s.pending i = Claims.pendingBit s i := by
  have hmask : (0x1F : Byte).getLsbD i = decide (i < 5) := Nat.testBit_two_pow_sub_one 5 i
  rw [bitOf, State.pending, BitVec.getLsbD_and, BitVec.getLsbD_and, hmask, Claims.pendingBit, Bool.and_comm, Bool.and_assoc]

theorem State.pending_ne_zero {s : State} {i : Nat} (h : Claims.pendingBit s i = true) : s.pending ≠ 0 := by
  intro h0
  rw [← s.bitOf_pending, h0] at h
  simp [bitOf] at h

theorem State.pending_eq_zero {s : State} (h : ∀ i, Claims.pendingBit s i = false) : s.pending = 0 :=
  eq_of_bitOf fun i => by rw [s.bitOf_pending, h i]; simp [bitOf]

/-- The lowest set bit below 5 is the one with no set bit under it (R413). -/
theorem lowestBit_eq {v : Byte} {i : Nat} (hi : i < 5) (hset : bitOf v i = true) (hlow : ∀ j, j < i → bitOf v j = false) :
    lowestBit v = i := by
  unfold lowestBit
  match i with
  | 0 => rw [if_pos hset]
  | 1 => simp [hlow 0, hset]
  | 2 => simp [hlow 0, hlow 1, hset]
  | 3 => simp [hlow 0, hlow 1, hlow 2, hset]
  | 4 => simp [hlow 0, hlow 1, hlow 2, hlow 3]

/-- A push by a CPU with the same SP stores the same two bytes (00_scope.md R12). -/
theorem State.push16_withCpu (s : State) {c : Cpu} (hsp : c.sp = s.cpu.sp) (v : Word) :
    State.push16 { s with cpu := c } v = { Claims.pushed s v with cpu := { c with sp := s.cpu.sp - 2 } } := by
  rw [State.push16_eq, Claims.pushed, highPart_eq_hiByte, lowPart_eq_loByte]
  simp only [State.memWrite_withCpu, hsp]

/-- Taking interrupt i: clearing its set request bit takes 2^i away from IF (R414). -/
theorem State.takeInterrupt_eq {s : State} {i : Nat} (hi : i < 5) (hset : bitOf s.iflag i = true) :
    s.takeInterrupt i =
      { Claims.pushed { s with iflag := BitVec.ofNat 8 (s.iflag.toNat - 2 ^ i) } s.cpu.pc with
        cpu := { s.cpu with
          ime := false, imePending := false, halt := false, sp := s.cpu.sp - 2, pc := BitVec.ofNat 16 (0x0040 + 8 * i) } } := by
  have hclear : withoutBit s.iflag i = BitVec.ofNat 8 (s.iflag.toNat - 2 ^ i) := by
    have hto := withoutBit_toNat s.iflag ⟨i, by omega⟩
    rw [bitOf_eq_decide, decide_eq_true_eq] at hset
    rw [if_pos hset] at hto
    exact (byte_of_toNat hto).symm
  have hpush := State.push16_withCpu { s with iflag := withoutBit s.iflag i }
    (c := { s.cpu with ime := false, imePending := false, halt := false }) rfl s.cpu.pc
  rw [← hclear]
  exact congrArg (fun t : State => t.setPc (vector i)) hpush

/-- Settles O39: the lowest pending bit is the one dispatched, and the other cases leave all but `halt` alone. -/
theorem theInterruptCheck : Obligations.TheInterruptCheck := by
  unfold Obligations.TheInterruptCheck
  intro s
  refine ⟨fun hstop => State.handleInterrupts_of_stopped (s.stopped_iff_stoppedBy.2 hstop), ?_, ?_, ?_⟩
  all_goals
    intro hstop
    rw [← s.stopped_iff_stoppedBy] at hstop
  · intro hime i hset hlow
    obtain ⟨⟨hi, hreq⟩, -⟩ : (i < 5 ∧ bitOf s.iflag i = true) ∧ s.ie.getLsbD i = true := by
      simpa [Claims.pendingBit, bitOf] using hset
    have hbit : lowestBit s.pending = i :=
      lowestBit_eq hi ((s.bitOf_pending i).trans hset) fun j hj => (s.bitOf_pending j).trans (hlow j hj)
    rw [State.handleInterrupts, if_neg hstop, if_pos ⟨hime, State.pending_ne_zero hset⟩, hbit, State.takeInterrupt_eq hi hreq]
  · rintro hime hhalt ⟨i, hset⟩
    rw [State.handleInterrupts, if_neg hstop, if_neg (by simp [hime]), if_pos ⟨hime, hhalt, State.pending_ne_zero hset⟩]
  · rintro (hnone | ⟨hime, hhalt⟩)
    · simp [State.handleInterrupts, State.pending_eq_zero hnone]
    · exact State.handleInterrupts_of_running hime hhalt

end Sys2Proof.Machine
end

section

namespace Sys2Proof.Machine

/-! ### The joypad (60_exceptions.md R435, R437) -/

/-- The key lines the register shows: those of each selected group, a clear latch bit selecting it (R435). -/
def Joypad.lines (j : Joypad) : BitVec 4 :=
  (if j.latch.getLsbD 0 then 0xF else j.dirMask) &&& (if j.latch.getLsbD 1 then 0xF else j.btnMask)

theorem Joypad.lines_getLsbD (j : Joypad) (i : Fin 4) :
    j.lines.getLsbD i = ((j.latch.getLsbD 0 || j.dirMask.getLsbD i) && (j.latch.getLsbD 1 || j.btnMask.getLsbD i)) := by
  have ones : ∀ i : Fin 4, (0xF : BitVec 4).getLsbD i = true := by decide
  have group (deselected : Bool) (m : BitVec 4) :
      (if deselected then (0xF : BitVec 4) else m).getLsbD i = (deselected || m.getLsbD i) := by
    cases deselected
    case false => rfl
    case true => exact ones i
  rw [Joypad.lines, BitVec.getLsbD_and, group, group]

/-- The register is three fields side by side: ones, the latch and the key lines (R435). -/
theorem Joypad.read_fields (j : Joypad) :
    (∀ i : Fin 4, j.read.getLsbD i = j.lines.getLsbD i) ∧ j.read.toNat / 16 = 12 + j.latch.toNat := by
  have low : ∀ (l : BitVec 2) (w : BitVec 4) (i : Fin 4),
      ((0xC0 : Byte) ||| (l.setWidth 8 <<< 4) ||| w.setWidth 8).getLsbD i = w.getLsbD i := by decide
  have high : ∀ (l : BitVec 2) (w : BitVec 4),
      ((0xC0 : Byte) ||| (l.setWidth 8 <<< 4) ||| w.setWidth 8).toNat / 16 = 12 + l.toNat := by decide
  exact ⟨low j.latch j.lines, high j.latch j.lines⟩

theorem maskWith_getElem (m : BitVec 4) (v : Bool) {i j : Nat} (hi : i < 4) (hj : j < 4) :
    (maskWith m i v)[j] = if j = i then v else m[j] := by
  have key : ∀ (m : BitVec 4) (v : Bool) (i j : Fin 4), (maskWith m i v).getLsbD j = if j = i then v else m.getLsbD j := by
    decide
  simpa [hj] using key m v ⟨i, hi⟩ ⟨j, hj⟩

theorem Joypad.withKey_latch (j : Joypad) (v : Bool) (k : Key) : (j.withKey v k).latch = j.latch := by cases k <;> rfl

/-- Setting a key's mask bit leaves the other seven as they were (R437). -/
theorem Joypad.maskOf_withKey (j : Joypad) (v : Bool) (k q : Key) :
    Claims.maskOf (j.withKey v k) q = if q = k then v else Claims.maskOf j q := by
  cases k <;> cases q <;> simp [Joypad.withKey, Claims.maskOf, maskWith_getElem]

/-- Settles O59: the register by its fields, the two host moves by the one mask bit they set. -/
theorem theJoypad : Obligations.TheJoypad := by
  unfold Obligations.TheJoypad
  intro s k
  have hread : s.memRead 0xFF00 = s.joy.read := by simp [State.memRead, State.owner, route, ioOwner]
  obtain ⟨hlow, hhigh⟩ := s.joy.read_fields
  rw [hread]
  refine ⟨fun i hi => (hlow ⟨i, hi⟩).trans (s.joy.lines_getLsbD ⟨i, hi⟩), hhigh, ?_, ?_⟩
  · exact ⟨s.joy.withKey false k, rfl, s.joy.withKey_latch false k, s.joy.maskOf_withKey false k⟩
  · exact ⟨s.joy.withKey true k, rfl, s.joy.withKey_latch true k, s.joy.maskOf_withKey true k⟩

end Sys2Proof.Machine
end

section

namespace Sys2Proof.Machine

/-! ### The timer's loops (60_exceptions.md R432, R433) -/

/-- The divider loop, run long enough, is division by 256. -/
theorem divLoop_eq (k : Nat) (t : Timer) (hk : t.divCounter ≤ k) :
    Claims.divLoop k t =
      { t with divCounter := t.divCounter % 256, div := t.div + BitVec.ofNat 8 (t.divCounter / 256) } := by
  have done (t : Timer) (h : t.divCounter < 256) :
      t = { t with divCounter := t.divCounter % 256, div := t.div + BitVec.ofNat 8 (t.divCounter / 256) } := by
    rw [Nat.div_eq_of_lt h, Nat.mod_eq_of_lt h, BitVec.add_zero]
  induction k generalizing t with
  | zero => exact done t (by omega)
  | succ k ih =>
    rw [Claims.divLoop]
    split_ifs with h
    · have hq : t.divCounter / 256 = (t.divCounter - 256) / 256 + 1 := by omega
      have hr : t.divCounter % 256 = (t.divCounter - 256) % 256 := by omega
      have hdiv : Claims.byte ((t.div.toNat + 1) % 256) + BitVec.ofNat 8 ((t.divCounter - 256) / 256) =
          t.div + BitVec.ofNat 8 (t.divCounter / 256) := by
        rw [hq, Claims.byte]
        bv_omega
      rw [ih _ (by simp only; omega)]
      simp only [hdiv, hr]
    · exact done t (by omega)

/-- A byte moved on by one. -/
theorem byte_toNat_succ (v : Byte) : Claims.byte (v.toNat + 1) = v + 1 := by rw [Claims.byte]; bv_omega

theorem threshold_eq_timaThreshold : ∀ tac : BitVec 3, Claims.threshold tac = timaThreshold tac := by decide

/-- `tima_counter <- n`. -/
def State.withTimaCounter (s : State) (n : Nat) : State := { s with timer := { s.timer with timaCounter := n } }

@[simp] theorem State.withTimaCounter_timaCounter (s : State) (n : Nat) : (s.withTimaCounter n).timer.timaCounter = n := rfl

@[simp] theorem State.withTimaCounter_self (s : State) : s.withTimaCounter s.timer.timaCounter = s := rfl

@[simp] theorem State.withTimaCounter_withTimaCounter (s : State) (n m : Nat) :
    (s.withTimaCounter n).withTimaCounter m = s.withTimaCounter m := rfl

/-- An increment of TIMA does not meet the counter. -/
theorem State.timaTick_withTimaCounter (s : State) (n : Nat) : (s.withTimaCounter n).timaTick = s.timaTick.withTimaCounter n := by
  have htima : (s.withTimaCounter n).timer.tima = s.timer.tima := rfl
  rw [State.timaTick, State.timaTick, htima]
  split <;> rfl

/-- The TIMA loop on a state's timer and IF, cut after k rounds (R432). -/
def State.timaRounds (th k : Nat) (s : State) : State :=
  let x := Claims.timaLoop th k (s.timer, s.iflag)
  { s with timer := x.1, iflag := x.2 }

/-- A round is one increment, and takes one threshold from the counter. -/
theorem State.timaRounds_succ_of_le {th : Nat} (k : Nat) {s : State} (h : th ≤ s.timer.timaCounter) :
    State.timaRounds th (k + 1) s = State.timaRounds th k (s.timaTick.withTimaCounter (s.timer.timaCounter - th)) := by
  have hinc : Claims.byte (s.timer.tima.toNat + 1) = s.timer.tima + 1 := byte_toNat_succ _
  rw [State.timaRounds, Claims.timaLoop, if_pos h, State.timaTick]
  split <;> rfl

theorem State.timaRounds_of_lt {th : Nat} (k : Nat) {s : State} (h : s.timer.timaCounter < th) : State.timaRounds th k s = s := by
  cases k with
  | zero => rfl
  | succ k => rw [State.timaRounds, Claims.timaLoop, if_neg (Nat.not_le.mpr h)]

/-- Run long enough, the TIMA loop is one increment for each whole threshold. -/
theorem State.timaRounds_eq {th : Nat} (hth : 0 < th) (k : Nat) (s : State) (hk : s.timer.timaCounter ≤ k) :
    State.timaRounds th k s =
      State.timaTicks (s.timer.timaCounter / th) (s.withTimaCounter (s.timer.timaCounter % th)) := by
  have done (k : Nat) (s : State) (h : s.timer.timaCounter < th) : State.timaRounds th k s =
      State.timaTicks (s.timer.timaCounter / th) (s.withTimaCounter (s.timer.timaCounter % th)) := by
    rw [State.timaRounds_of_lt k h, Nat.div_eq_of_lt h, Nat.mod_eq_of_lt h]
    rfl
  induction k generalizing s with
  | zero => exact done 0 s (by omega)
  | succ k ih =>
    obtain h | h := Nat.lt_or_ge s.timer.timaCounter th
    · exact done (k + 1) s h
    · obtain ⟨n, hn⟩ := Nat.exists_eq_add_of_le' h
      have hn' : n ≤ k := by omega
      rw [State.timaRounds_succ_of_le k h, hn, Nat.add_sub_cancel, ih _ hn', State.withTimaCounter_timaCounter,
        State.withTimaCounter_withTimaCounter, Nat.add_mod_right, Nat.add_div_right n hth, State.timaTicks,
        State.timaTick_withTimaCounter]

/-- TIMA's part of the update is its loop, on the state the divider's part leaves (R432). -/
theorem State.timaUpdate_eq_timaRounds {s : State} {c k : Nat} (hk : s.timer.timaCounter + c ≤ k) :
    s.timaUpdate c =
      if s.timer.tac.toNat / 4 = 1 then
        State.timaRounds (Claims.threshold s.timer.tac) k (s.withTimaCounter (s.timer.timaCounter + c))
      else s := by
  have hbit : ∀ tac : BitVec 3, tac.getLsbD 2 = true ↔ tac.toNat / 4 = 1 := by decide
  have hth : 0 < timaThreshold s.timer.tac := Nat.lt_of_lt_of_le (by decide) (timaThreshold_bounds s.timer.tac).1
  rw [threshold_eq_timaThreshold, State.timaRounds_eq hth k (s.withTimaCounter (s.timer.timaCounter + c)) hk]
  simp only [State.timaUpdate, hbit]
  rfl

/-- Settles O53: the divider's loop is a division, and TIMA's loop is as many increments as whole thresholds. -/
theorem timerUpdateIsTheSpecsLoops : Obligations.TimerUpdateIsTheSpecsLoops := by
  unfold Obligations.TimerUpdateIsTheSpecsLoops
  intro s c k hdiv htima
  have htima' : (s.dividerUpdate c).timer.timaCounter + c ≤ k := htima
  rw [State.timerUpdate, State.timaUpdate_eq_timaRounds htima', Claims.timerLoops, divLoop_eq k _ hdiv]
  rfl

end Sys2Proof.Machine
end

section

namespace Sys2Proof.Machine

/-! ### The stored mode and the coincidence flag (60_exceptions.md R455) -/

theorem modeAt_eq_ppuMode (ly dot : Nat) : Claims.modeAt ly dot = ppuMode ly dot := by
  rw [Claims.modeAt, ppuMode]
  by_cases h : ly < 144
  · rw [if_pos h, if_neg (show ¬ 144 ≤ ly by omega)]
  · rw [if_neg h, if_pos (show 144 ≤ ly by omega)]

theorem ppuMode_lt (ly dot : Nat) : ppuMode ly dot < 4 := by
  unfold ppuMode
  split_ifs <;> decide

/-- STAT with mode m stored (R455). -/
def statWithMode (v : Byte) (m : Nat) : Byte := (v &&& 0xFC) ||| BitVec.ofNat 8 (m % 4)

/-- STAT with the coincidence flag, bit 2, written (R455). -/
def statWithMatch (v : Byte) (eq : Bool) : Byte := if eq then withBit v 2 else withoutBit v 2

theorem statWithMode_mode (v : Byte) {m : Nat} (hm : m < 4) : (statWithMode v m).toNat % 4 = m := by
  have key : ∀ (v : Byte) (m : Fin 4), (statWithMode v m).toNat % 4 = m := by decide
  exact key v ⟨m, hm⟩

theorem bitOf_statWithMode (v : Byte) (m : Nat) {i : Nat} (hi : 2 ≤ i) (hi' : i < 8) :
    bitOf (statWithMode v m) i = bitOf v i := by
  have mask : ∀ j : Fin 8, 2 ≤ j.val → (0xFC : Byte).getLsbD j = true := by decide
  have small : m % 4 < 2 ^ i := Nat.lt_of_lt_of_le (Nat.mod_lt m (by decide)) (Nat.pow_le_pow_right (n := 2) (by decide) hi)
  have mode : (BitVec.ofNat 8 (m % 4)).getLsbD i = false := by
    rw [BitVec.getLsbD_ofNat, Nat.testBit_lt_two_pow small, Bool.and_false]
  rw [bitOf, statWithMode, BitVec.getLsbD_or, BitVec.getLsbD_and, mask ⟨i, hi'⟩ hi, mode, Bool.and_true, Bool.or_false, bitOf]

theorem statWithMatch_mode (v : Byte) (eq : Bool) : (statWithMatch v eq).toNat % 4 = v.toNat % 4 := by
  revert v eq
  decide

theorem bitOf_statWithMatch (v : Byte) (eq : Bool) (i : Nat) :
    bitOf (statWithMatch v eq) i = if i = 2 then eq else bitOf v i := by
  unfold statWithMatch
  cases eq
  · rw [if_neg Bool.false_ne_true, bitOf_withoutBit v 2 i (by decide)]
    split_ifs with h <;> simp [h]
  · rw [if_pos rfl, bitOf_withBit v 2 i (by decide)]
    split_ifs with h <;> simp [h]

/-! ### A new line and a new mode (60_exceptions.md R455, R457) -/

/-- A request that is not made; `BitVec.or_zero` at the statements' literal. -/
theorem or_noBits (v : Byte) : v ||| 0x00 = v := BitVec.or_zero

theorem State.lcdIrqIf_ppu (s : State) (b : Nat) : (s.lcdIrqIf b).ppu = s.ppu := by
  unfold State.lcdIrqIf
  split <;> rfl

theorem State.lcdIrqIf_iflag (s : State) (b : Nat) :
    (s.lcdIrqIf b).iflag = s.iflag ||| (if bitOf s.ppu.stat b = true then 0x02 else 0x00) := by
  unfold State.lcdIrqIf
  split
  · rfl
  · rw [or_noBits]

/-- The new line, LY moved on modulo 154. -/
def Ppu.lineAfter (p : Ppu) : Nat := (p.ly.toNat + 1) % 154

theorem Ppu.lineAfter_eq_lyc (p : Ppu) : BitVec.ofNat 8 p.lineAfter = p.lyc ↔ p.lyc.toNat = p.lineAfter := by
  unfold Ppu.lineAfter
  bv_omega

/-- A new line starts at `dot` 0, and the coincidence flag says whether it meets LYC. -/
theorem State.nextLine_ppu (s : State) :
    s.nextLine.ppu = { s.ppu with
      dot := 0, ly := BitVec.ofNat 8 s.ppu.lineAfter,
      stat := statWithMatch s.ppu.stat (decide (s.ppu.lyc.toNat = s.ppu.lineAfter)) } := by
  have heq := s.ppu.lineAfter_eq_lyc
  unfold Ppu.lineAfter at heq ⊢
  unfold State.nextLine
  simp only [heq]
  split
  next h =>
    rw [State.lcdIrqIf_ppu, decide_eq_true h]
    rfl
  next h =>
    rw [decide_eq_false h]
    rfl

/-- A new line requests the LCD interrupt on meeting LYC, if STAT bit 6 lets it. -/
theorem State.nextLine_iflag (s : State) :
    s.nextLine.iflag =
      s.iflag ||| (if s.ppu.lyc.toNat = s.ppu.lineAfter ∧ bitOf s.ppu.stat 6 = true then 0x02 else 0x00) := by
  have hstat : bitOf (withBit s.ppu.stat 2) 6 = bitOf s.ppu.stat 6 := bitOf_statWithMatch s.ppu.stat true 6
  have heq := s.ppu.lineAfter_eq_lyc
  unfold Ppu.lineAfter at heq ⊢
  unfold State.nextLine
  simp only [heq]
  split
  next h => simp only [State.lcdIrqIf_iflag, hstat, h, true_and]
  next h => simp only [h, false_and, if_false, or_noBits]

/-- Entering mode m stores it, and h-blank renders the line. -/
theorem State.enterMode_ppu (s : State) (m : Nat) :
    (s.enterMode m).ppu = { s.ppu with
      stat := statWithMode s.ppu.stat m
      fb := if m = 0 then putRow s.ppu.fb s.ppu.ly.toNat (renderRow s.par s.ppu s.ppu.ly.toNat) else s.ppu.fb } :=
  match m with
  | 0 => State.lcdIrqIf_ppu _ 3
  | 1 => State.lcdIrqIf_ppu _ 4
  | 2 => State.lcdIrqIf_ppu _ 5
  | _ + 3 => rfl

theorem State.setMode_iflag (s : State) (m : Nat) : (s.setMode m).iflag = s.iflag := rfl

/-- Entering mode 1 requests V-Blank, and STAT bits 3, 4 and 5 let modes 0, 1 and 2 request the LCD interrupt. -/
theorem State.enterMode_iflag (s : State) (m : Nat) :
    (s.enterMode m).iflag = s.iflag ||| (if m = 1 then 0x01 else 0x00) |||
      (if (m = 0 ∧ bitOf s.ppu.stat 3 = true) ∨ (m = 1 ∧ bitOf s.ppu.stat 4 = true) ∨ (m = 2 ∧ bitOf s.ppu.stat 5 = true)
        then 0x02 else 0x00) := by
  have hstat (i : Nat) (hi : 2 ≤ i) (hi' : i < 8) : bitOf (s.setMode m).ppu.stat i = bitOf s.ppu.stat i :=
    bitOf_statWithMode s.ppu.stat m hi hi'
  match m with
  | 0 => simp [State.enterMode, State.lcdIrqIf_iflag, State.renderLine, State.setMode_iflag, hstat]
  | 1 => simp [State.enterMode, State.lcdIrqIf_iflag, State.setMode_iflag, hstat, withBit]
  | 2 => simp [State.enterMode, State.lcdIrqIf_iflag, State.setMode_iflag, hstat]
  | m + 3 => simp [State.enterMode, State.setMode_iflag]

/-! ### The tick (60_exceptions.md R455, R457) -/

/-- What a tick does before it looks at the mode: `dot` moves on, at the end of a line to the next line. -/
def State.moveDot (s : State) : State :=
  let s := { s with ppu := { s.ppu with dot := s.ppu.dot + 1 } }
  if s.ppu.dot = 456 then s.nextLine else s

theorem State.ppuTick_eq (s : State) :
    s.ppuTick =
      let m := ppuMode s.moveDot.ppu.ly.toNat s.moveDot.ppu.dot
      if m ≠ s.moveDot.ppu.mode then s.moveDot.enterMode m else s.moveDot := rfl

theorem State.moveDot_of_lineEnd {s : State} (h : s.ppu.dot = 455) :
    s.moveDot = State.nextLine { s with ppu := { s.ppu with dot := s.ppu.dot + 1 } } :=
  if_pos (by rw [h])

theorem State.moveDot_of_inLine {s : State} (h : s.ppu.dot ≠ 455) :
    s.moveDot = { s with ppu := { s.ppu with dot := s.ppu.dot + 1 } } :=
  if_neg (by simpa using h)

theorem State.moveDot_ppu (s : State) :
    s.moveDot.ppu =
      if s.ppu.dot = 455 then { s.ppu with
        dot := 0, ly := BitVec.ofNat 8 s.ppu.lineAfter,
        stat := statWithMatch s.ppu.stat (decide (s.ppu.lyc.toNat = s.ppu.lineAfter)) }
      else { s.ppu with dot := s.ppu.dot + 1 } := by
  split
  next h => rw [State.moveDot_of_lineEnd h, State.nextLine_ppu]; rfl
  next h => rw [State.moveDot_of_inLine h]

theorem State.moveDot_iflag (s : State) :
    s.moveDot.iflag = s.iflag |||
      (if (s.ppu.dot = 455 ∧ s.ppu.lyc.toNat = s.ppu.lineAfter) ∧ bitOf s.ppu.stat 6 = true then 0x02 else 0x00) := by
  by_cases h : s.ppu.dot = 455
  · rw [State.moveDot_of_lineEnd h, State.nextLine_iflag]
    simp only [h, true_and]
    rfl
  · rw [State.moveDot_of_inLine h]
    simp only [h, false_and, if_false, or_noBits]

theorem Ppu.lineAfter_toNat (p : Ppu) : (BitVec.ofNat 8 p.lineAfter).toNat = p.lineAfter := by
  have : p.lineAfter < 154 := Nat.mod_lt _ (by decide)
  rw [BitVec.toNat_ofNat, Nat.mod_eq_of_lt (by omega)]

theorem State.moveDot_ly (s : State) :
    s.moveDot.ppu.ly.toNat = if s.ppu.dot = 455 then s.ppu.lineAfter else s.ppu.ly.toNat := by
  rw [State.moveDot_ppu]
  split
  · exact s.ppu.lineAfter_toNat
  · rfl

theorem State.moveDot_dot (s : State) : s.moveDot.ppu.dot = if s.ppu.dot = 455 then 0 else s.ppu.dot + 1 := by
  rw [State.moveDot_ppu]
  split <;> rfl

/-- The mode bits are not the coincidence flag. -/
theorem State.moveDot_mode (s : State) : s.moveDot.ppu.mode = s.ppu.mode := by
  rw [State.moveDot_ppu]
  split
  · exact statWithMatch_mode _ _
  · rfl

theorem State.bitOf_moveDot_stat (s : State) (i : Nat) :
    bitOf s.moveDot.ppu.stat i =
      if i = 2 ∧ s.ppu.dot = 455 then decide (s.ppu.lyc.toNat = s.ppu.lineAfter) else bitOf s.ppu.stat i := by
  rw [State.moveDot_ppu]
  by_cases h : s.ppu.dot = 455
  · simp only [h, if_true, and_true, bitOf_statWithMatch]
  · simp only [h, if_false, and_false]

/-- The mode of the place a tick moves to (R455). -/
def State.nextMode (s : State) : Nat := ppuMode s.moveDot.ppu.ly.toNat s.moveDot.ppu.dot

/-- What a tick can be: the place moves on, and a mode other than the stored one is entered. -/
theorem State.ppuTick_cases (s : State) :
    (s.nextMode = s.ppu.mode ∧ s.ppuTick = s.moveDot) ∨
      (s.nextMode ≠ s.ppu.mode ∧ s.ppuTick = s.moveDot.enterMode s.nextMode) := by
  have hmode := s.moveDot_mode
  rw [State.ppuTick_eq]
  by_cases h : s.nextMode = s.ppu.mode
  · exact .inl ⟨h, if_neg (not_not.2 (h.trans hmode.symm))⟩
  · exact .inr ⟨h, if_pos fun h' => h (h'.trans hmode)⟩

theorem State.ppuTick_ly (s : State) :
    s.ppuTick.ppu.ly.toNat = if s.ppu.dot = 455 then s.ppu.lineAfter else s.ppu.ly.toNat := by
  rw [← s.moveDot_ly]
  obtain ⟨-, h⟩ | ⟨-, h⟩ := s.ppuTick_cases
  · rw [h]
  · rw [h, State.enterMode_ppu]

theorem State.ppuTick_dot (s : State) : s.ppuTick.ppu.dot = if s.ppu.dot = 455 then 0 else s.ppu.dot + 1 := by
  rw [← s.moveDot_dot]
  obtain ⟨-, h⟩ | ⟨-, h⟩ := s.ppuTick_cases
  · rw [h]
  · rw [h, State.enterMode_ppu]

theorem State.nextMode_eq (s : State) : s.nextMode = ppuMode s.ppuTick.ppu.ly.toNat s.ppuTick.ppu.dot := by
  rw [State.nextMode, s.ppuTick_ly, s.ppuTick_dot, s.moveDot_ly, s.moveDot_dot]

theorem State.ppuTick_mode (s : State) : s.ppuTick.ppu.mode = s.nextMode := by
  obtain ⟨hm, h⟩ | ⟨-, h⟩ := s.ppuTick_cases
  · rw [h, s.moveDot_mode, hm]
  · rw [h, State.enterMode_ppu]
    exact statWithMode_mode _ (ppuMode_lt _ _)

/-- Only a new line writes the coincidence flag. -/
theorem State.ppuTick_coincidence (s : State) :
    bitOf s.ppuTick.ppu.stat 2 =
      if s.ppu.dot = 455 then decide (s.ppu.lyc.toNat = s.ppu.lineAfter) else bitOf s.ppu.stat 2 := by
  have hline := s.bitOf_moveDot_stat 2
  simp only [true_and] at hline
  rw [← hline]
  obtain ⟨-, h⟩ | ⟨-, h⟩ := s.ppuTick_cases
  · rw [h]
  · rw [h, State.enterMode_ppu]
    exact bitOf_statWithMode _ _ (by decide) (by decide)

/-- Requests made one after another are the requests made together. -/
theorem or_requests (v : Byte) (p q r : Prop) [Decidable p] [Decidable q] [Decidable r] :
    v ||| (if p then 0x02 else 0x00) ||| (if q then 0x01 else 0x00) ||| (if r then 0x02 else 0x00) =
      v ||| (if q then 0x01 else 0x00) ||| (if p ∨ r then 0x02 else 0x00) := by
  generalize (if q then 0x01 else 0x00 : Byte) = w
  by_cases hp : p
  · have twice : v ||| 0x02 ||| w ||| 0x02 = v ||| w ||| 0x02 := by ac_rfl
    have once : v ||| 0x02 ||| w = v ||| w ||| 0x02 := by ac_rfl
    simp only [hp, true_or, if_true]
    split
    · exact twice
    · rw [or_noBits, once]
  · simp only [hp, false_or, if_false, or_noBits]

/-- The requests of a tick: a new line that meets LYC, and the mode entered (R457). -/
theorem State.ppuTick_iflag (s : State) :
    s.ppuTick.iflag =
      s.iflag ||| (if s.nextMode = 1 ∧ s.ppu.mode ≠ 1 then 0x01 else 0x00) |||
        (if ((s.ppu.dot = 455 ∧ s.ppu.lyc.toNat = s.ppu.lineAfter) ∧ bitOf s.ppu.stat 6 = true) ∨
            ((s.nextMode = 0 ∧ s.ppu.mode ≠ 0) ∧ bitOf s.ppu.stat 3 = true) ∨
            ((s.nextMode = 1 ∧ s.ppu.mode ≠ 1) ∧ bitOf s.ppu.stat 4 = true) ∨
            ((s.nextMode = 2 ∧ s.ppu.mode ≠ 2) ∧ bitOf s.ppu.stat 5 = true)
          then 0x02 else 0x00) := by
  have stat (i : Nat) (hi : i ≠ 2) : bitOf s.moveDot.ppu.stat i = bitOf s.ppu.stat i := by
    rw [s.bitOf_moveDot_stat]
    exact if_neg fun h => hi h.1
  obtain ⟨hm, h⟩ | ⟨hm, h⟩ := s.ppuTick_cases
  · have same (m : Nat) : (s.nextMode = m ∧ s.ppu.mode ≠ m) ↔ False := by rw [hm]; tauto
    simp only [h, s.moveDot_iflag, same, false_and, or_false, if_false, or_noBits]
  · have enters (m : Nat) : (s.nextMode = m ∧ s.ppu.mode ≠ m) ↔ s.nextMode = m := by
      constructor
      · exact fun h => h.1
      · rintro rfl; exact ⟨rfl, hm.symm⟩
    rw [h, State.enterMode_iflag, s.moveDot_iflag, stat 3 (by decide), stat 4 (by decide), stat 5 (by decide), or_requests]
    simp only [enters]

/-- Settles O55: the requests of the new line and of the entered mode, in the statement's terms. -/
theorem ppuInterruptEdges : Obligations.PpuInterruptEdges := by
  unfold Obligations.PpuInterruptEdges
  intro s _ _ t line ly dot entered meets lcd
  have hly : t.ppu.ly.toNat = ly := s.ppuTick_ly
  have hdot : t.ppu.dot = dot := s.ppuTick_dot
  have hmode : s.nextMode = Claims.modeAt ly dot := by rw [s.nextMode_eq, modeAt_eq_ppuMode, ← hly, ← hdot]
  have hentered (m : Nat) : s.nextMode = m ∧ s.ppu.mode ≠ m ↔ entered m := by rw [hmode]; rfl
  have hlineAfter (h : line) : ly = s.ppu.lineAfter := if_pos h
  have hmeets : (s.ppu.dot = 455 ∧ s.ppu.lyc.toNat = s.ppu.lineAfter) ↔ meets :=
    and_congr_right fun h => by rw [hlineAfter h]
  have hiflag := s.ppuTick_iflag
  simp only [hentered, hmeets] at hiflag
  refine ⟨hly, hdot, hiflag, s.ppuTick_coincidence.trans ?_⟩
  split
  next h => rw [hlineAfter h]
  next => rfl

/-! ### The frame (60_exceptions.md R456, R458) -/

/-- A tick moves one place on in the frame. -/
theorem State.ppuTick_place {s : State} (hly : s.ppu.ly.toNat < 154) (hdot : s.ppu.dot < 456) :
    Claims.framePlace s.ppuTick.ppu = (Claims.framePlace s.ppu + 1) % 70224 ∧
      s.ppuTick.ppu.ly.toNat < 154 ∧ s.ppuTick.ppu.dot < 456 := by
  simp only [Claims.framePlace, s.ppuTick_ly, s.ppuTick_dot, Ppu.lineAfter]
  split <;> omega

theorem State.ppuTicks_place (c : Nat) {s : State} (hly : s.ppu.ly.toNat < 154) (hdot : s.ppu.dot < 456) :
    Claims.framePlace (State.ppuTicks c s).ppu = (Claims.framePlace s.ppu + c) % 70224 ∧
      (State.ppuTicks c s).ppu.ly.toNat < 154 ∧ (State.ppuTicks c s).ppu.dot < 456 := by
  induction c generalizing s with
  | zero =>
    have hlt : Claims.framePlace s.ppu < 70224 := by rw [Claims.framePlace]; omega
    rw [Nat.add_zero, Nat.mod_eq_of_lt hlt]
    exact ⟨rfl, hly, hdot⟩
  | succ c ih =>
    obtain ⟨hplace, hly', hdot'⟩ := State.ppuTick_place hly hdot
    obtain ⟨hplaces, hbounds⟩ := ih hly' hdot'
    refine ⟨?_, hbounds⟩
    rw [State.ppuTicks, hplaces, hplace, Nat.mod_add_mod, Nat.add_assoc, Nat.add_comm 1 c]

/-- STAT holds the mode of the place. -/
def Ppu.ModeOfPlace (p : Ppu) : Prop := p.mode = ppuMode p.ly.toNat p.dot

theorem State.ppuTick_modeOfPlace (s : State) : s.ppuTick.ppu.ModeOfPlace := s.ppuTick_mode.trans s.nextMode_eq

theorem State.ppuTicks_modeOfPlace (c : Nat) {s : State} (h : s.ppu.ModeOfPlace) : (State.ppuTicks c s).ppu.ModeOfPlace := by
  induction c generalizing s with
  | zero => exact h
  | succ c ih => exact ih s.ppuTick_modeOfPlace

/-- With the LCD off an update is a reset of the place and the mode, of any length (R456). -/
theorem State.ppuUpdate_of_off {s : State} (h : s.ppu.lcdc.getLsbD 7 = false) (c : Nat) :
    s.ppuUpdate c =
      { s with ppu := { s.ppu with stat := Claims.byte (s.ppu.stat.toNat / 4 * 4), ly := 0, dot := 0 } } := by
  have hstat : ∀ v : Byte, (v &&& 0xFC) ||| BitVec.ofNat 8 (0 % 4) = Claims.byte (v.toNat / 4 * 4) := by decide
  rw [State.ppuUpdate, if_pos (show bitOf s.ppu.lcdc 7 = false from h), ← hstat]
  rfl

theorem State.ppuUpdate_of_on {s : State} (h : s.ppu.lcdc.getLsbD 7 = true) (c : Nat) : s.ppuUpdate c = State.ppuTicks c s :=
  if_neg (by rw [bitOf, h]; exact Bool.noConfusion)

/-- Settles O54: tick by tick, each leaving the mode of its place. -/
theorem thePpuAdvancesThroughItsFrame : Obligations.ThePpuAdvancesThroughItsFrame := by
  unfold Obligations.ThePpuAdvancesThroughItsFrame
  intro s c t
  refine ⟨fun hon hly hdot hc => ?_, fun hoff => State.ppuUpdate_of_off hoff c⟩
  have ht : t = State.ppuTicks c s := State.ppuUpdate_of_on hon c
  obtain ⟨hplace, hly', hdot'⟩ := State.ppuTicks_place c hly hdot
  obtain ⟨k, rfl⟩ := Nat.exists_eq_add_one_of_ne_zero (Nat.pos_iff_ne_zero.1 hc)
  have hmode := State.ppuTicks_modeOfPlace k s.ppuTick_modeOfPlace
  rw [ht, modeAt_eq_ppuMode]
  exact ⟨hplace, hly', hdot', hmode⟩

/-! ### Rendering (60_exceptions.md R455, R460, R466) -/

theorem ppuMode_eq_zero_iff (ly dot : Nat) : ppuMode ly dot = 0 ↔ ly < 144 ∧ 252 ≤ dot := by
  unfold ppuMode
  split_ifs <;> simp <;> omega

/-- A tick enters h-blank only within a visible line (R455). -/
theorem State.nextMode_eq_zero_iff {s : State} (hly : s.ppu.ly.toNat < 154) (hdot : s.ppu.dot < 456) :
    s.nextMode = 0 ↔ s.ppu.ly.toNat < 144 ∧ 252 ≤ s.ppu.dot + 1 ∧ s.ppu.dot + 1 < 456 := by
  rw [s.nextMode_eq, ppuMode_eq_zero_iff, s.ppuTick_ly, s.ppuTick_dot]
  split_ifs <;> omega

/-- On entering h-blank a tick puts line LY, since it stays within the line; the compositor reads neither the place nor STAT. -/
theorem State.ppuTick_fb_of_hblank {s : State} (hmode : s.nextMode = 0) (hne : s.ppu.mode ≠ 0) (hdot : s.ppu.dot ≠ 455) :
    s.ppuTick.ppu.fb = putRow s.ppu.fb s.ppu.ly.toNat (renderRow s.par s.ppu s.ppu.ly.toNat) := by
  obtain ⟨h, -⟩ | ⟨-, h⟩ := s.ppuTick_cases
  · exact absurd (h.symm.trans hmode) hne
  · rw [h, hmode, State.enterMode_ppu, State.moveDot_of_inLine hdot]
    rfl

theorem State.ppuTick_fb_of_other {s : State} (h : ¬ (s.nextMode = 0 ∧ s.ppu.mode ≠ 0)) : s.ppuTick.ppu.fb = s.ppu.fb := by
  have hfb : s.moveDot.ppu.fb = s.ppu.fb := by rw [State.moveDot_ppu]; split <;> rfl
  obtain ⟨-, htick⟩ | ⟨hne, htick⟩ := s.ppuTick_cases
  · rw [htick, hfb]
  · have hmode : s.nextMode ≠ 0 := fun h0 => h ⟨h0, fun hm => hne (h0.trans hm.symm)⟩
    rw [htick, State.enterMode_ppu, if_neg hmode, hfb]

theorem Ppu.pixel_of_row {p : Ppu} {y x : Nat} {r : List Rgba} (h : getRow p.fb y = some r) (hx : x < r.length) :
    some (p.pixel y x) = r[x]? := by
  rw [Ppu.pixel, h, List.getElem?_eq_getElem hx]
  exact congrArg some (List.getD_eq_getElem _ _ hx)

theorem Ppu.pixel_congr {p q : Ppu} {y : Nat} (h : getRow p.fb y = getRow q.fb y) (x : Nat) : p.pixel y x = q.pixel y x := by
  rw [Ppu.pixel, Ppu.pixel, h]

/-- Settles O58: only a tick that enters h-blank puts a row, and a row put leaves the other rows. -/
theorem aTickRendersOnEnteringHblank : Obligations.ATickRendersOnEnteringHblank := by
  unfold Obligations.ATickRendersOnEnteringHblank
  intro s y x hly hdot hy hx enters
  have henters : s.nextMode = 0 ∧ s.ppu.mode ≠ 0 ↔ enters := by
    rw [State.nextMode_eq_zero_iff hly hdot, and_assoc, and_assoc]
    rfl
  have rendered (h : enters) : getRow s.ppuTick.ppu.fb y =
      if y = s.ppu.ly.toNat then some (renderRow s.par s.ppu s.ppu.ly.toNat) else getRow s.ppu.fb y := by
    obtain ⟨hmode, hne⟩ := henters.2 h
    obtain ⟨-, -, hline, -⟩ := h
    rw [State.ppuTick_fb_of_hblank hmode hne (by omega), getRow_putRow]
  refine ⟨fun h hline => ?_, fun h => Ppu.pixel_congr ?_ x⟩
  · have hrow := rendered h
    rw [if_pos hline, ← hline] at hrow
    exact Ppu.pixel_of_row hrow ((renderRow_length _ _ _).symm ▸ hx)
  · by_cases he : enters
    · rw [rendered he, if_neg fun hline => h ⟨he, hline⟩]
    · rw [State.ppuTick_fb_of_other (henters.not.2 he)]

end Sys2Proof.Machine
end

section

namespace Sys2Proof.Machine

/-! ### Pixels in arithmetic (60_exceptions.md R451, R461, R463, R465, R466) -/

/-- The shade a palette register gives a colour index, among the four of the parameters. -/
theorem shadeRgba_paletteShade (par : Params) (pal : Byte) (ci : Nat) :
    shadeRgba par (paletteShade pal ci) =
      [par.shade0, par.shade1, par.shade2, par.shade3].getD (pal.toNat / 4 ^ ci % 4) par.shade0 := by
  have shade (i : Nat) (hi : i < 4) : shadeRgba par i = [par.shade0, par.shade1, par.shade2, par.shade3].getD i par.shade0 :=
    match i with
    | 0 | 1 | 2 | 3 => rfl
  exact shade _ (Nat.mod_lt _ (by decide))

/-- A tile pixel's two bit planes in arithmetic (R451). -/
theorem tilePixel_eq (p : Ppu) (t x y : Nat) :
    tilePixel p t x y =
      (p.vram0Byte (16 * t + 2 * y + 1)).toNat / 2 ^ (7 - x) % 2 * 2 + (p.vram0Byte (16 * t + 2 * y)).toNat / 2 ^ (7 - x) % 2 := by
  simp only [tilePixel, bitOf_toNat, Nat.mul_comm 2 (_ % 2)]

/-- A 5-bit component as a byte in arithmetic (R465). -/
theorem expand5_eq (c : BitVec 5) : expand5 c = Claims.byte (c.toNat * 8 + c.toNat / 4) := by
  revert c
  decide

theorem extract5_toNat (w : Word) (k : Nat) : (w.extractLsb' k 5).toNat = w.toNat / 2 ^ k % 32 := by
  rw [BitVec.extractLsb'_toNat, Nat.shiftRight_eq_div_pow]

theorem rgb555_eq (p : Ppu) (pal ci : Nat) :
    rgb555 p pal ci =
      let w := (p.palByte (pal * 8 + ci * 2 + 1)).toNat * 256 + (p.palByte (pal * 8 + ci * 2)).toNat
      let expand (c : Nat) : Byte := Claims.byte (c * 8 + c / 4)
      ⟨expand (w % 32), expand (w / 32 % 32), expand (w / 1024 % 32), 0xFF⟩ := by
  simp only [rgb555, expand5_eq, extract5_toNat, word16_toNat, Nat.pow_zero, Nat.div_one]
  rfl

/-! ### The background and the window (60_exceptions.md R461) -/

theorem windowAt_iff (p : Ppu) (ly x : Nat) :
    windowAt p ly x = true ↔ p.lcdc.getLsbD 5 = true ∧ p.wy.toNat ≤ ly ∧ (p.wx.toNat : Int) - 7 ≤ x := by
  simp only [windowAt, bitOf, Bool.and_eq_true, decide_eq_true_eq, and_assoc]
  refine and_congr_right fun _ => and_congr_right fun _ => ?_
  omega

/-- The signed tile number of LCDC bit 4 clear, counted from tile 0x100. -/
theorem tileNumber_eq (p : Ppu) (idx : Byte) :
    tileNumber p idx =
      let n : Int := idx.toNat
      (if p.lcdc.getLsbD 4 then n else 256 + (if 128 ≤ n then n - 256 else n)).toNat := by
  unfold tileNumber bitOf
  dsimp only
  split_ifs <;> omega

/-- The map pixel of a column in signed coordinates. -/
theorem mapPixel_eq (p : Ppu) (ly x : Nat) :
    mapPixel p ly x =
      let left : Int := p.wx.toNat - 7
      let win := p.lcdc.getLsbD 5 = true ∧ p.wy.toNat ≤ ly ∧ left ≤ x
      let map : Nat :=
        if win then (if p.lcdc.getLsbD 6 then 0x9C00 else 0x9800) else (if p.lcdc.getLsbD 3 then 0x9C00 else 0x9800)
      (map - 0x8000, if win then ((x : Int) - left).toNat else (x + p.scx.toNat) % 256,
        if win then ly - p.wy.toNat else (ly + p.scy.toNat) % 256) := by
  have hcol : ((x : Int) - (p.wx.toNat - 7)).toNat = x + 7 - p.wx.toNat := by omega
  have hbase (b : Bool) : (if b then 0x9C00 else 0x9800) - 0x8000 = if b then 0x1C00 else 0x1800 := by cases b <;> rfl
  simp only [mapPixel, windowAt_iff, hcol, bitOf]
  split
  · rw [hbase]; rfl
  · rw [hbase]; rfl

theorem and_seven_toNat (v : Byte) : (v &&& 0x07).toNat = v.toNat % 8 := by
  rw [BitVec.toNat_and]
  exact Nat.and_two_pow_sub_one_eq_mod _ 3

/-- The model's column is the rule's, place by place: the map pixel, the tile, its two bit planes and the palette. -/
theorem bgColumn_eq_bgPixel (par : Params) (p : Ppu) (ly x : Nat) : bgColumn par p ly x = Claims.bgPixel par p ly x := by
  unfold bgColumn Claims.bgPixel
  split
  next h => exact (if_pos h).symm
  next h =>
    rw [mapPixel_eq]
    refine Eq.trans ?_ (if_neg h).symm
    simp only [tilePixel_eq, tileNumber_eq, rgb555_eq, and_seven_toNat, shadeRgba_paletteShade]
    exact apply_ite (Prod.mk _) (par.colorMode = true) _ _

/-- Settles O56: without sprites the row is the columns of the background and window. -/
theorem aRenderedLineWithoutSprites : Obligations.ARenderedLineWithoutSprites := by
  unfold Obligations.ARenderedLineWithoutSprites
  intro par p ly x _ hx hoff
  have hx' : (List.range 160)[x]? = some x := List.getElem?_range hx
  rw [renderRow, if_neg (by rw [bitOf, hoff]; exact Bool.noConfusion)]
  simp [hx', bgColumn_eq_bgPixel]

end Sys2Proof.Machine
end

section

namespace Sys2Proof.Machine

/-! ### Where a sprite shows (60_exceptions.md R462, R463) -/

theorem spriteHeight_eq (p : Ppu) : (if p.lcdc.getLsbD 2 then 16 else 8 : Int) = spriteHeight p := by
  unfold spriteHeight bitOf
  split <;> rfl

theorem spriteCovers_iff (p : Ppu) (ly n : Nat) :
    spriteCovers p ly n = true ↔
      (p.oamByte (4 * n)).toNat ≤ ly + 16 ∧ ly + 16 < (p.oamByte (4 * n)).toNat + spriteHeight p := by
  rw [spriteCovers, Bool.and_eq_true, decide_eq_true_eq, decide_eq_true_eq]

/-- The tile and the tile row in signed coordinates; bit 0 of a tall sprite's tile number is its half. -/
theorem spriteTileRow_eq {p : Ppu} {ly n : Nat} (hcov : spriteCovers p ly n = true) :
    spriteTileRow p ly n =
      let h : Int := if p.lcdc.getLsbD 2 then 16 else 8
      let top : Int := (p.oamByte (4 * n)).toNat - 16
      let tile := (p.oamByte (4 * n + 2)).toNat
      let row : Int := if (p.oamByte (4 * n + 3)).getLsbD 6 then h - 1 - (ly - top) else ly - top
      (if h = 16 then (if row < 8 then tile / 2 * 2 else tile / 2 * 2 + 1) else tile, row.toNat % 8) := by
  obtain ⟨hlo, hhi⟩ := (spriteCovers_iff p ly n).1 hcov
  have upper : ∀ v : Byte, (v &&& 0xFE).toNat = v.toNat / 2 * 2 := by decide
  have lower : ∀ v : Byte, (v ||| 0x01).toNat = v.toNat / 2 * 2 + 1 := by decide
  have hrow : (if (p.oamByte (4 * n + 3)).getLsbD 6 then
        (spriteHeight p : Int) - 1 - (ly - ((p.oamByte (4 * n)).toNat - 16)) else ly - ((p.oamByte (4 * n)).toNat - 16)) =
      ((if bitOf (p.oamByte (4 * n + 3)) 6 then spriteHeight p - 1 - (ly + 16 - (p.oamByte (4 * n)).toNat)
        else ly + 16 - (p.oamByte (4 * n)).toNat : Nat) : Int) := by
    unfold bitOf
    split <;> omega
  have tall : (spriteHeight p : Int) = 16 ↔ spriteHeight p = 16 := by omega
  have half (r : Nat) : (r : Int) < 8 ↔ r < 8 := by omega
  simp only [spriteTileRow, spriteHeight_eq, hrow, tall, half, upper, lower, Int.toNat_natCast]

/-- What column col of a covering OAM entry paints over a background of colour index bgci, if it shows there (R463). -/
def spriteColumnPixel (par : Params) (p : Ppu) (bgci ly n col : Nat) : Option Rgba :=
  let attr := p.oamByte (4 * n + 3)
  let t := spriteTileRow p ly n
  let ci := tilePixel p t.1 (if bitOf attr 5 then 7 - col else col) t.2
  if ci = 0 then none
  else if bitOf attr 7 = true ∧ bgci ≠ 0 then none
  else some (shadeRgba par (paletteShade (if bitOf attr 4 then p.obp1 else p.obp0) ci))

/-- The column of OAM entry n that lies over column x of the line. -/
def spriteColumn (p : Ppu) (n x : Nat) : Nat := x + 8 - (p.oamByte (4 * n + 1)).toNat

/-- Whether OAM entry n lies over column x of line ly. -/
def spriteOver (p : Ppu) (ly n x : Nat) : Prop :=
  spriteCovers p ly n = true ∧ (p.oamByte (4 * n + 1)).toNat ≤ x + 8 ∧ spriteColumn p n x < 8

theorem spritePixel_of_over {p : Ppu} {ly n x : Nat} (h : spriteOver p ly n x) (par : Params) (bgci : Nat) :
    Claims.spritePixel par p bgci ly n x = spriteColumnPixel par p bgci ly n (spriteColumn p n x) := by
  obtain ⟨hcov, hleft, hright⟩ := h
  obtain ⟨hlo, hhi⟩ := (spriteCovers_iff p ly n).1 hcov
  have hcol : (x : Int) - ((p.oamByte (4 * n + 1)).toNat - 8) = spriteColumn p n x := by unfold spriteColumn; omega
  have hflip (b : Bool) : (if b then 7 - (spriteColumn p n x : Int) else spriteColumn p n x).toNat =
      if b then 7 - spriteColumn p n x else spriteColumn p n x := by
    split <;> omega
  unfold Claims.spritePixel
  simp only [hcol, hflip]
  rw [if_pos (by rw [spriteHeight_eq]; omega)]
  simp only [spriteColumnPixel, spriteTileRow_eq hcov, tilePixel_eq, shadeRgba_paletteShade, ite_or]
  rfl

theorem spritePixel_of_not_over {p : Ppu} {ly n x : Nat} (h : ¬ spriteOver p ly n x) (par : Params) (bgci : Nat) :
    Claims.spritePixel par p bgci ly n x = none := by
  rw [spriteOver, spriteCovers_iff, spriteColumn] at h
  unfold Claims.spritePixel
  simp only [spriteHeight_eq]
  exact if_neg (by omega)

end Sys2Proof.Machine
end

section

namespace Sys2Proof.Machine

/-! ### Painting (60_exceptions.md R462, R463) -/

/-- A sprite's column paints the pixel it lies over, if that is on the line and the sprite shows there. -/
theorem paintSpriteColumn_eq (par : Params) (p : Ppu) (bgci : List Nat) (ly n : Nat) (row : List Rgba) (col : Nat) :
    paintSpriteColumn par p bgci ly n row col =
      let x8 := (p.oamByte (4 * n + 1)).toNat + col
      if x8 < 8 ∨ 167 < x8 then row
      else (spriteColumnPixel par p (bgci.getD (x8 - 8) 0) ly n col).elim row (row.set (x8 - 8)) := by
  simp only [paintSpriteColumn, spriteColumnPixel]
  split_ifs <;> rfl

theorem paintSpriteColumn_length (par : Params) (p : Ppu) (bgci : List Nat) (ly n : Nat) (row : List Rgba) (col : Nat) :
    (paintSpriteColumn par p bgci ly n row col).length = row.length := by
  rw [paintSpriteColumn_eq]
  simp only
  split
  · rfl
  · cases spriteColumnPixel par p _ ly n col
    · rfl
    · exact List.length_set

/-- Over the column it covers a sprite's pixel stands before what was there; the other columns are kept. -/
theorem paintSpriteColumn_getElem? (par : Params) (p : Ppu) (bgci : List Nat) (ly n : Nat) {row : List Rgba} {x : Nat}
    (hrow : row.length = 160) (hx : x < 160) (col : Nat) :
    (paintSpriteColumn par p bgci ly n row col)[x]? =
      if (p.oamByte (4 * n + 1)).toNat + col = x + 8 then
        (spriteColumnPixel par p (bgci.getD x 0) ly n col).or row[x]?
      else row[x]? := by
  rw [paintSpriteColumn_eq]
  simp only
  generalize (p.oamByte (4 * n + 1)).toNat + col = x8
  by_cases hoff : x8 < 8 ∨ 167 < x8
  · rw [if_pos hoff, if_neg (by omega)]
  · rw [if_neg hoff]
    by_cases hover : x8 = x + 8
    · rw [if_pos hover, hover, Nat.add_sub_cancel]
      cases spriteColumnPixel par p (bgci.getD x 0) ly n col
      · rfl
      · exact List.getElem?_set_self (hrow.symm ▸ hx)
    · rw [if_neg hover]
      cases spriteColumnPixel par p _ ly n col
      · rfl
      · exact List.getElem?_set_ne (by omega)

/-- Painting columns in a row: the one over x, if it is among them, stands before what was there. -/
theorem foldl_paintSpriteColumn_getElem? (par : Params) (p : Ppu) (bgci : List Nat) (ly n : Nat) {x : Nat} (hx : x < 160)
    (cols : List Nat) {row : List Rgba} (hrow : row.length = 160) :
    (cols.foldl (paintSpriteColumn par p bgci ly n) row)[x]? =
      if (p.oamByte (4 * n + 1)).toNat ≤ x + 8 ∧ spriteColumn p n x ∈ cols then
        (spriteColumnPixel par p (bgci.getD x 0) ly n (spriteColumn p n x)).or row[x]?
      else row[x]? := by
  induction cols generalizing row with
  | nil => simp
  | cons c cols ih =>
    rw [List.foldl_cons, ih ((paintSpriteColumn_length ..).trans hrow), paintSpriteColumn_getElem? _ _ _ _ _ hrow hx]
    have hcol : (p.oamByte (4 * n + 1)).toNat + c = x + 8 ↔ (p.oamByte (4 * n + 1)).toNat ≤ x + 8 ∧ spriteColumn p n x = c := by
      unfold spriteColumn
      omega
    simp only [hcol, List.mem_cons]
    by_cases hc : (p.oamByte (4 * n + 1)).toNat ≤ x + 8 ∧ spriteColumn p n x = c
    · obtain ⟨hle, rfl⟩ := hc
      simp only [hle, true_and, true_or, if_true, ← Option.or_assoc, Option.or_self, ite_self]
    · have hmem : (p.oamByte (4 * n + 1)).toNat ≤ x + 8 ∧ (spriteColumn p n x = c ∨ spriteColumn p n x ∈ cols) ↔
          (p.oamByte (4 * n + 1)).toNat ≤ x + 8 ∧ spriteColumn p n x ∈ cols := by tauto
      simp only [hc, if_false, hmem]

/-- Painting an OAM entry puts what it paints at a column over what was there. -/
theorem paintSprite_getElem? (par : Params) (p : Ppu) (bgci : List Nat) (ly n : Nat) {row : List Rgba} {x : Nat}
    (hrow : row.length = 160) (hx : x < 160) :
    (paintSprite par p bgci ly row n)[x]? = (Claims.spritePixel par p (bgci.getD x 0) ly n x).or row[x]? := by
  have hcols := foldl_paintSpriteColumn_getElem? par p bgci ly n hx (List.range 8) hrow
  simp only [List.mem_range] at hcols
  unfold paintSprite
  by_cases h : spriteOver p ly n x
  · obtain ⟨hcov, hin⟩ := id h
    rw [if_pos hcov, hcols, if_pos hin, spritePixel_of_over h]
  · rw [spritePixel_of_not_over h, Option.none_or]
    split
    next hcov => rw [hcols, if_neg fun hin => h ⟨hcov, hin⟩]
    next => rfl

/-- Painting entries from last to first leaves the first that shows, over what was there. -/
theorem foldl_paintSprite_getElem? (par : Params) (p : Ppu) (bgci : List Nat) (ly : Nat) {x : Nat} (hx : x < 160)
    (entries : List Nat) {row : List Rgba} (hrow : row.length = 160) :
    (entries.reverse.foldl (paintSprite par p bgci ly) row)[x]? =
      (entries.findSome? fun n => Claims.spritePixel par p (bgci.getD x 0) ly n x).or row[x]? := by
  have hlen (l : List Nat) : (l.foldr (fun n r => paintSprite par p bgci ly r n) row).length = 160 := by
    induction l with
    | nil => exact hrow
    | cons n l ih => rw [List.foldr_cons, paintSprite_length, ih]
  rw [List.foldl_reverse]
  induction entries with
  | nil => rfl
  | cons n entries ih =>
    rw [List.foldr_cons, paintSprite_getElem? _ _ _ _ _ (hlen entries) hx, ih, List.findSome?_cons]
    cases Claims.spritePixel par p (bgci.getD x 0) ly n x <;> rfl

/-- Settles O57: the entries are painted from the last to the first, over the columns of the background and window. -/
theorem theLowestOamIndexWins : Obligations.TheLowestOamIndexWins := by
  unfold Obligations.TheLowestOamIndexWins
  intro par p ly x _ hx hon bg
  let columns := (List.range 160).map (bgColumn par p ly)
  have hcolumn : columns[x]? = some bg := by
    rw [List.getElem?_map, List.getElem?_range hx, Option.map_some, bgColumn_eq_bgPixel]
  have hbg : (columns.map Prod.snd)[x]? = some bg.2 := by rw [List.getElem?_map, hcolumn]; rfl
  have hci : (columns.map Prod.fst).getD x 0 = bg.1 := by
    rw [List.getD_eq_getElem?_getD, List.getElem?_map, hcolumn]; rfl
  have hlen : (columns.map Prod.snd).length = 160 := by simp [columns]
  rw [renderRow, if_pos (show bitOf p.lcdc 1 = true from hon), foldl_paintSprite_getElem? _ _ _ _ hx _ hlen, hci, hbg]
  exact Option.or_some

end Sys2Proof.Machine
end

section

namespace Sys2Proof.Machine

/-! ### What every step keeps and counts (10_state.md R36, R38, R39, R41; 20_memory.md R88, R90; 60_exceptions.md R437;
70_reset_and_hazards.md R505) -/

/-- The two key masks (10_state.md R51). -/
def Joypad.keyMasks (j : Joypad) : BitVec 4 × BitVec 4 := (j.dirMask, j.btnMask)

/-- What neither an instruction nor anything around it in a step changes before the cycles are counted: the machine of
`State.SameMachine`, and the key masks. -/
structure State.SameMachineAndKeys (s t : State) : Prop where
  machine : s.SameMachine t
  keys : t.joy.keyMasks = s.joy.keyMasks

namespace State.SameMachineAndKeys

variable {s t u : State}

theorem refl (s : State) : s.SameMachineAndKeys s := ⟨⟨rfl, rfl, rfl, rfl, rfl, List.prefix_rfl⟩, rfl⟩

theorem trans (h : s.SameMachineAndKeys t) (h' : t.SameMachineAndKeys u) : s.SameMachineAndKeys u :=
  ⟨h.machine.trans h'.machine, h'.keys.trans h.keys⟩

end State.SameMachineAndKeys

theorem Owner.eq_joyp_of_disturbs {o : Owner} (h : Owner.joyp ∈ o.disturbed) : o = .joyp := by
  cases o
  case joyp => rfl
  all_goals simp [Owner.disturbed] at h

/-- A write to the joypad register moves its latch alone, and no other write reaches the joypad (60_exceptions.md R435). -/
theorem State.memWrite_keyMasks (s : State) (a : Word) (v : Byte) : (s.memWrite a v).joy.keyMasks = s.joy.keyMasks := by
  by_cases ha : s.owner a = .joyp
  · rw [State.memWrite, ha]
    rfl
  · have hjoy : (s.memWrite a v).joy = s.joy := s.memWrite_agreeOn a v fun h => ha (Owner.eq_joyp_of_disturbs h)
    rw [hjoy]

theorem Effect.keyMasks {s t : State} (e : Effect s t) : t.joy.keyMasks = s.joy.keyMasks := by
  induction e with
  | start => rfl
  | cycles n _ ih => exact ih
  | cpu c _ _ ih => exact ih
  | store a v _ ih => exact (State.memWrite_keyMasks _ a v).trans ih
  | illegal op a _ ih => exact ih

theorem Effect.sameMachineAndKeys {s t : State} (e : Effect s t) : s.SameMachineAndKeys t := ⟨e.sameMachine, e.keyMasks⟩

theorem State.devicesUpdate_sameMachineAndKeys (s : State) (c : Nat) : s.SameMachineAndKeys (s.devicesUpdate c) := by
  refine ⟨⟨?_, ?_, ?_, ?_, ?_, ?_⟩, ?_⟩ <;> simp [State.devicesUpdate]

theorem State.withCpu_withIflag_sameMachineAndKeys (s : State) (c : Cpu) (f : Byte) :
    s.SameMachineAndKeys { s with cpu := c, iflag := f } :=
  ⟨⟨rfl, rfl, rfl, rfl, rfl, List.prefix_rfl⟩, rfl⟩

theorem State.takeInterrupt_sameMachineAndKeys (s : State) (i : Nat) : s.SameMachineAndKeys (s.takeInterrupt i) := by
  let cleared : State :=
    { s with cpu := { s.cpu with ime := false, imePending := false, halt := false }, iflag := withoutBit s.iflag i }
  have hcleared : s.SameMachineAndKeys cleared := s.withCpu_withIflag_sameMachineAndKeys _ _
  exact hcleared.trans ((Effect.start.push16 cleared.cpu.pc).setPc (vector i)).sameMachineAndKeys

theorem State.handleInterrupts_sameMachineAndKeys (s : State) : s.SameMachineAndKeys s.handleInterrupts.1 := by
  unfold State.handleInterrupts
  split_ifs
  · exact .refl s
  · exact s.takeInterrupt_sameMachineAndKeys _
  · exact s.withCpu_withIflag_sameMachineAndKeys _ _
  · exact .refl s

/-- EI's latch moves to IME or the CPU stays as it is (R505, R511). -/
theorem State.promoteIme_eq (s : State) :
    s.promoteIme = { s with cpu := if s.cpu.imePending then { s.cpu with ime := true, imePending := false } else s.cpu } := by
  unfold State.promoteIme
  split <;> rfl

theorem State.promoteIme_imePending (s : State) : s.promoteIme.cpu.imePending = false := by
  rw [s.promoteIme_eq]
  split
  next => rfl
  next h => exact Bool.eq_false_iff.mpr h

/-- The rest of a step keeps all of it but the cycle total (R505). -/
theorem State.finishStep_sameMachineAndKeys (s : State) :
    s.SameMachineAndKeys { s.finishStep with totalCycles := s.totalCycles } := by
  let r := (s.devicesUpdate s.stepCycles).handleInterrupts
  have hcheck : s.SameMachineAndKeys r.1 :=
    (s.devicesUpdate_sameMachineAndKeys _).trans (State.handleInterrupts_sameMachineAndKeys _)
  have hdevices : s.SameMachineAndKeys (if 0 < r.2 then r.1.devicesUpdate r.2 else r.1) := by
    split
    · exact hcheck.trans (r.1.devicesUpdate_sameMachineAndKeys _)
    · exact hcheck
  obtain ⟨⟨hpar, hboot, hrom, hctype, -, hdiag⟩, hkeys⟩ := hdevices
  rw [State.finishStep, State.promoteIme_eq]
  exact ⟨⟨hpar, hboot, hrom, hctype, rfl, hdiag⟩, hkeys⟩

theorem State.finishStep_totalCycles (s : State) : s.finishStep.totalCycles = s.totalCycles + s.finishStep.stepCycles :=
  Nat.add_assoc _ _ _

theorem State.finishStep_imePending (s : State) : s.finishStep.cpu.imePending = false := State.promoteIme_imePending _

/-- A step, idle or not, is the rest of a step after changes that keep the machine and the key masks (R400, R401). -/
theorem step_finishes {s t : State} (h : step s = .next t) :
    ∃ v, (Claims.begun s).SameMachineAndKeys v ∧ t = v.finishStep := by
  rw [← s.beginStep_eq_begun]
  obtain ⟨-, rfl⟩ | ⟨-, i, u, v, hfetch, hexec, rfl⟩ := step_cases h
  · exact ⟨_, (Effect.start.cycles _).sameMachineAndKeys, rfl⟩
  · obtain ⟨pc, rfl⟩ := State.fetch_setPc hfetch
    exact ⟨v, (Effect.start.setPc pc).sameMachineAndKeys.trans (exec_effect i hexec).sameMachineAndKeys, rfl⟩

/-- Settles O37: the overlay ends before the instruction, the cycles are counted after it, and nothing in between changes the rest. -/
theorem whatEveryStepKeeps : Obligations.WhatEveryStepKeeps := by
  unfold Obligations.WhatEveryStepKeeps
  intro s t hstep
  obtain ⟨v, hbefore, rfl⟩ := step_finishes hstep
  have htotal : v.finishStep.totalCycles = s.totalCycles + v.finishStep.stepCycles := by
    rw [v.finishStep_totalCycles, hbefore.machine.totalCycles]
    rfl
  obtain ⟨⟨hpar, hboot, hrom, hctype, -, d, hdiag⟩, hkeys⟩ := hbefore.trans v.finishStep_sameMachineAndKeys
  obtain ⟨hdir, hbtn⟩ := Prod.mk.inj hkeys
  exact ⟨htotal, hboot, hpar, hrom, hctype, hdir, hbtn, v.finishStep_imePending, d, hdiag.symm⟩

end Sys2Proof.Machine
end

section

namespace Sys2Proof.Machine

/-! ### The end of a run (70_reset_and_hazards.md R520) -/

/-- With nothing pending and enabled the check does nothing (60_exceptions.md R417). -/
theorem State.handleInterrupts_of_pending_eq_zero {s : State} (h : s.pending = 0) : s.handleInterrupts = (s, 0) := by
  simp only [State.handleInterrupts, h, ne_eq, not_true_eq_false, and_false, if_false, ite_self]

/-- With no source enabled none can become pending, whatever IF holds (60_exceptions.md R411). -/
theorem State.pending_eq_zero_of_noneEnabled {s : State} (h : s.ie &&& 0x1F = 0) : s.pending = 0 := by
  rw [State.pending, BitVec.and_assoc, h]
  exact BitVec.and_zero

theorem State.suspended_of_halted {s : State} (h : s.cpu.halt = true) : s.suspended = true := by
  rw [State.suspended, h, Bool.true_or]

theorem State.sleeps_of_ended {s : State} (hhalt : s.cpu.halt = true) (hie : s.ie &&& 0x1F = 0)
    (hpending : s.cpu.imePending = false) : s.Sleeps where
  notPending := hpending
  suspended _ h := State.suspended_of_halted (h.cpu ▸ hhalt)
  noInterrupt _ h := State.handleInterrupts_of_pending_eq_zero (State.pending_eq_zero_of_noneEnabled (h.ie ▸ hie))

theorem State.ended_eq_true {s : State} (hhalt : s.cpu.halt = true) (hie : s.ie &&& 0x1F = 0) : s.ended = true := by
  rw [State.ended, hhalt, Bool.true_and, decide_eq_true hie]

/-- Settles O42: a CPU at the end of a run sleeps. -/
theorem theEndOfARunIsForGood : Obligations.TheEndOfARunIsForGood := by
  unfold Obligations.TheEndOfARunIsForGood
  intro n s hhalt hie hpending
  obtain ⟨t, hrun, hsame, -⟩ := (State.sleeps_of_ended hhalt hie hpending).run n
  have hended : State.ended t = true := State.ended_eq_true (hsame.cpu ▸ hhalt) (hsame.ie ▸ hie)
  exact ⟨t, hrun, hsame.cpu, hsame.ie, hsame.mem, hsame.cart, hended⟩

end Sys2Proof.Machine
end

section

namespace Sys2Proof.Machine

/-! ### The step of a running CPU (60_exceptions.md R400; 70_reset_and_hazards.md R505) -/

theorem State.begun_suspended_eq_false {s : State} (hhalt : s.cpu.halt = false) (hstop : ¬ Claims.stoppedBy s) :
    (Claims.begun s).suspended = false := by
  have hstopped : (Claims.begun s).stopped = false := by
    rw [Bool.eq_false_iff, ne_eq, State.stopped_iff_stoppedBy]
    exact hstop
  exact State.suspended_eq_false hhalt hstopped

/-- A fetch by what the bytes at PC decode to (R400). -/
theorem State.fetch_of_decode {s : State} {i : Instr} {rest : List Byte} (h : decode (Claims.bytesAtPc s) = .ok (i, rest)) :
    s.fetch = .ok (i, s.setPc (s.cpu.pc + BitVec.ofNat 16 (3 - rest.length))) := by
  have hbytes : s.fetchBytes = Claims.bytesAtPc s := rfl
  rw [State.fetch, hbytes, h]

/-- A running CPU's step, once its instruction has answered. -/
theorem step_of_exec {s u t : State} {i : Instr} (hrunning : (Claims.begun s).suspended = false)
    (hfetch : (Claims.begun s).fetch = .ok (i, u)) (hexec : exec i u = .next t) : step s = .next t.finishStep := by
  rw [← s.beginStep_eq_begun] at hrunning hfetch
  rw [step_of_fetch hrunning hfetch, hexec]

/-- Settles O33: the fetch, then `exec`, then the rest of the step. -/
theorem aStepRunsTheDecodedInstruction : Obligations.AStepRunsTheDecodedInstruction := by
  unfold Obligations.AStepRunsTheDecodedInstruction
  intro s t i rest hhalt hstop hdecode hexec c u w
  have hrunning := State.begun_suspended_eq_false hhalt hstop
  have hfinish : t.finishStep = { w.promoteIme with stepCycles := c + u.2, totalCycles := t.totalCycles + c + u.2 } := rfl
  rw [step_of_exec hrunning (State.fetch_of_decode hdecode) hexec, hfinish, w.promoteIme_eq]

end Sys2Proof.Machine
end
